-- ==== Sys2Proof/Word.lean ====
section
/-!
DEFINITION. The words of SwiftNES CORE (00_scope.md R6, R11): bytes, the two address widths, and a sparse byte array.
-/

namespace Sys2Proof

/-- A data byte, `u8` (R6, R11). -/
abbrev Byte := BitVec 8

/-- A CPU address, 16 bits (R6). -/
abbrev Addr := BitVec 16

/-- A PPU address, 14 bits (R6, R36). -/
abbrev PpuAddr := BitVec 14

/-- A colour index of the picture, 0 to 63 (R411). -/
abbrev Colour := BitVec 6

/-- An array of bytes as (index, byte) pairs. The canonical form and the operations are in Machine/Memory.lean. -/
abbrev Memory := List Host.Cell

end Sys2Proof
end

