-- ==== Sys2Proof/Machine/Bits.lean ====
section
/-!
DEFINITION. Concatenation, pages and sign extension (00_scope.md R11), and the byte order of words (20_memory.md R81).
-/

namespace Sys2Proof

/-- `hi :: lo`, the 16-bit word with high byte `hi` and low byte `lo` (R11). -/
def hilo (hi lo : Byte) : Addr := hi ++ lo

/-- `w[15:8]`, the high byte; for an address its page (R11). -/
def hiByte (w : Addr) : Byte := w.extractLsb' 8 8

/-- `w[7:0]`, the low byte (R11). -/
def loByte (w : Addr) : Byte := w.extractLsb' 0 8

/-- `zext_16(b)` (R11). -/
def zext16 (b : Byte) : Addr := b.setWidth 16

/-- `sext_8(b)` as a 16-bit two's complement number, ready for `+16` (R11, R129). -/
def sext16 (b : Byte) : Addr := b.signExtend 16

/-- Whether two addresses lie in different pages (R125). -/
def pageDiffers (a c : Addr) : Bool := hiByte a != hiByte c

end Sys2Proof
end

