-- ==== Sys2Proof/Syntax.lean ====
section
/-!
DEFINITION. The syntax of the instruction set (30_encoding.md). `Instr` has one constructor for each of the 231 rows of
spec/opcode_table.json that are instructions, named by mnemonic and addressing mode, and one, `ill`, for the 25 rows
named ILL (log 21). Where two rows share mnemonic and mode, the constructor's name ends in the opcode byte.
-/

namespace Sys2Proof

/-- The mnemonics of R132 and R133; `nopU` and `sbcU` are the undocumented *NOP and *SBC, `ill` the table's ILL. -/
inductive Mnemonic
  | lda | ldx | ldy | sta | stx | sty | tax | tay | txa | tya | txs | tsx
  | adc | sbc | and | ora | eor | bit | cmp | cpx | cpy | inc | dec | inx
  | iny | dex | dey | asl | lsr | rol | ror | bpl | bmi | bvc | bvs | bcc
  | bcs | bne | beq | jmp | jsr | rts | rti | brk | pha | php | pla | plp
  | clc | sec | cli | sei | cld | sed | clv | nop | lax | sax | dcp | isb
  | slo | rla | sre | rra | anc | alr | arr | axs | sbcU | las | nopU | ill
  deriving DecidableEq, Repr

/-- The thirteen formats of R121 by name. -/
inductive ModeName
  | imp | acc | imm | zp | zpx | zpy | abs | absx | absy | indx | indy | ind | rel
  deriving DecidableEq, Repr

/-- The formats that address memory (R124 to R127), with their operand bytes. -/
inductive MemMode
  | zp (b : Byte)
  | zpx (b : Byte)
  | zpy (b : Byte)
  | abs (w : Addr)
  | absx (w : Addr)
  | absy (w : Addr)
  | indx (b : Byte)
  | indy (b : Byte)
  | ind (w : Addr)
  deriving DecidableEq, Repr

/-- What an instruction that reads a byte reads (R128): the immediate byte, or memory. -/
inductive Operand
  | imm (b : Byte)
  | mem (m : MemMode)
  deriving DecidableEq, Repr

/-- Any format with its operand bytes (R121). -/
inductive Mode
  | imp
  | acc
  | imm (b : Byte)
  | mem (m : MemMode)
  | rel (b : Byte)
  deriving DecidableEq, Repr

/-- The instructions. -/
inductive Instr
  -- Loads, stores, transfers (R160 to R171).
  | ldaImm (b : Byte) | ldaZp (b : Byte) | ldaZpx (b : Byte) | ldaAbs (w : Addr) | ldaAbsx (w : Addr)
  | ldaAbsy (w : Addr) | ldaIndx (b : Byte) | ldaIndy (b : Byte)
  | ldxImm (b : Byte) | ldxZp (b : Byte) | ldxZpy (b : Byte) | ldxAbs (w : Addr) | ldxAbsy (w : Addr)
  | ldyImm (b : Byte) | ldyZp (b : Byte) | ldyZpx (b : Byte) | ldyAbs (w : Addr) | ldyAbsx (w : Addr)
  | staZp (b : Byte) | staZpx (b : Byte) | staAbs (w : Addr) | staAbsx (w : Addr) | staAbsy (w : Addr)
  | staIndx (b : Byte) | staIndy (b : Byte)
  | stxZp (b : Byte) | stxZpy (b : Byte) | stxAbs (w : Addr)
  | styZp (b : Byte) | styZpx (b : Byte) | styAbs (w : Addr)
  | tax
  | tay
  | txa
  | tya
  | txs
  | tsx
  -- Arithmetic, logic, compare, increment, decrement (R191 to R206).
  | adcImm (b : Byte) | adcZp (b : Byte) | adcZpx (b : Byte) | adcAbs (w : Addr) | adcAbsx (w : Addr)
  | adcAbsy (w : Addr) | adcIndx (b : Byte) | adcIndy (b : Byte)
  | sbcImm (b : Byte) | sbcZp (b : Byte) | sbcZpx (b : Byte) | sbcAbs (w : Addr) | sbcAbsx (w : Addr)
  | sbcAbsy (w : Addr) | sbcIndx (b : Byte) | sbcIndy (b : Byte)
  | andImm (b : Byte) | andZp (b : Byte) | andZpx (b : Byte) | andAbs (w : Addr) | andAbsx (w : Addr)
  | andAbsy (w : Addr) | andIndx (b : Byte) | andIndy (b : Byte)
  | oraImm (b : Byte) | oraZp (b : Byte) | oraZpx (b : Byte) | oraAbs (w : Addr) | oraAbsx (w : Addr)
  | oraAbsy (w : Addr) | oraIndx (b : Byte) | oraIndy (b : Byte)
  | eorImm (b : Byte) | eorZp (b : Byte) | eorZpx (b : Byte) | eorAbs (w : Addr) | eorAbsx (w : Addr)
  | eorAbsy (w : Addr) | eorIndx (b : Byte) | eorIndy (b : Byte)
  | bitZp (b : Byte) | bitAbs (w : Addr)
  | cmpImm (b : Byte) | cmpZp (b : Byte) | cmpZpx (b : Byte) | cmpAbs (w : Addr) | cmpAbsx (w : Addr)
  | cmpAbsy (w : Addr) | cmpIndx (b : Byte) | cmpIndy (b : Byte)
  | cpxImm (b : Byte) | cpxZp (b : Byte) | cpxAbs (w : Addr)
  | cpyImm (b : Byte) | cpyZp (b : Byte) | cpyAbs (w : Addr)
  | incZp (b : Byte) | incZpx (b : Byte) | incAbs (w : Addr) | incAbsx (w : Addr)
  | decZp (b : Byte) | decZpx (b : Byte) | decAbs (w : Addr) | decAbsx (w : Addr)
  | inx
  | iny
  | dex
  | dey
  -- Shifts and rotates (R231 to R234).
  | aslAcc | aslZp (b : Byte) | aslZpx (b : Byte) | aslAbs (w : Addr) | aslAbsx (w : Addr)
  | lsrAcc | lsrZp (b : Byte) | lsrZpx (b : Byte) | lsrAbs (w : Addr) | lsrAbsx (w : Addr)
  | rolAcc | rolZp (b : Byte) | rolZpx (b : Byte) | rolAbs (w : Addr) | rolAbsx (w : Addr)
  | rorAcc | rorZp (b : Byte) | rorZpx (b : Byte) | rorAbs (w : Addr) | rorAbsx (w : Addr)
  -- Control transfer (R252 to R265).
  | bpl (b : Byte)
  | bmi (b : Byte)
  | bvc (b : Byte)
  | bvs (b : Byte)
  | bcc (b : Byte)
  | bcs (b : Byte)
  | bne (b : Byte)
  | beq (b : Byte)
  | jmpAbs (w : Addr) | jmpInd (w : Addr)
  | jsrAbs (w : Addr)
  | rts
  | rti
  | brk
  -- Stack, flags, NOP (R281 to R292).
  | pha
  | php
  | pla
  | plp
  | clc
  | sec
  | cli
  | sei
  | cld
  | sed
  | clv
  | nop
  -- Undocumented (R311 to R325).
  | laxZp (b : Byte) | laxZpy (b : Byte) | laxAbs (w : Addr) | laxAbsy (w : Addr) | laxIndx (b : Byte)
  | laxIndy (b : Byte)
  | saxZp (b : Byte) | saxZpy (b : Byte) | saxAbs (w : Addr) | saxIndx (b : Byte)
  | dcpZp (b : Byte) | dcpZpx (b : Byte) | dcpAbs (w : Addr) | dcpAbsx (w : Addr) | dcpAbsy (w : Addr)
  | dcpIndx (b : Byte) | dcpIndy (b : Byte)
  | isbZp (b : Byte) | isbZpx (b : Byte) | isbAbs (w : Addr) | isbAbsx (w : Addr) | isbAbsy (w : Addr)
  | isbIndx (b : Byte) | isbIndy (b : Byte)
  | sloZp (b : Byte) | sloZpx (b : Byte) | sloAbs (w : Addr) | sloAbsx (w : Addr) | sloAbsy (w : Addr)
  | sloIndx (b : Byte) | sloIndy (b : Byte)
  | rlaZp (b : Byte) | rlaZpx (b : Byte) | rlaAbs (w : Addr) | rlaAbsx (w : Addr) | rlaAbsy (w : Addr)
  | rlaIndx (b : Byte) | rlaIndy (b : Byte)
  | sreZp (b : Byte) | sreZpx (b : Byte) | sreAbs (w : Addr) | sreAbsx (w : Addr) | sreAbsy (w : Addr)
  | sreIndx (b : Byte) | sreIndy (b : Byte)
  | rraZp (b : Byte) | rraZpx (b : Byte) | rraAbs (w : Addr) | rraAbsx (w : Addr) | rraAbsy (w : Addr)
  | rraIndx (b : Byte) | rraIndy (b : Byte)
  | ancImm0B (b : Byte) | ancImm2B (b : Byte)
  | alrImm (b : Byte)
  | arrImm (b : Byte)
  | axsImm (b : Byte)
  | sbcImmEB (b : Byte)
  | lasAbsy (w : Addr)
  | nopImm80 (b : Byte) | nopImm82 (b : Byte) | nopImm89 (b : Byte) | nopImmC2 (b : Byte) | nopImmE2 (b : Byte)
  | nopZp04 (b : Byte) | nopZp44 (b : Byte) | nopZp64 (b : Byte) | nopZpx14 (b : Byte) | nopZpx34 (b : Byte)
  | nopZpx54 (b : Byte) | nopZpx74 (b : Byte) | nopZpxD4 (b : Byte) | nopZpxF4 (b : Byte) | nopAbs0C (w : Addr)
  | nopAbsx1C (w : Addr) | nopAbsx3C (w : Addr) | nopAbsx5C (w : Addr) | nopAbsx7C (w : Addr)
  | nopAbsxDC (w : Addr) | nopAbsxFC (w : Addr)
  -- The 25 bytes with no table entry (R135): one constructor, carrying the byte.
  | ill (op : Byte)
  deriving DecidableEq, Repr

end Sys2Proof
end

