-- ==== Sys2Proof/WellFormed.lean ====
section
/-!
DEFINITION. Well-formed instructions. Every operand byte is legal for every mode (30_encoding.md R136), and the operand
types have exactly the widths of R121, so one check remains: `ill` carries a byte that has no table entry (R135).
-/

namespace Sys2Proof

/-- The 25 opcode bytes with no table entry (R135). -/
def illegalOpcodes : List Byte :=
  [0x02, 0x12, 0x22, 0x32, 0x42, 0x52, 0x62, 0x72, 0x92, 0xB2, 0xD2, 0xF2,
   0x1A, 0x3A, 0x5A, 0x7A, 0xDA, 0xFA, 0x8B, 0xAB, 0x9B, 0x93, 0x9F, 0x9E, 0x9C]

/-- The instruction has an encoding. -/
def Instr.wf : Instr → Bool
  | .ill op => illegalOpcodes.contains op
  | _ => true

end Sys2Proof
end

