-- ==== Sys2Proof/Decode.lean ====
section
/-!
DEFINITION. The encoding (30_encoding.md): the per-opcode record of R138, the decoder (R120, R134), total on every list
of bytes, and after it the encoder, written from the opcode lists of R132 and R133.
-/

namespace Sys2Proof

/-! ### The per-opcode record (R138), from spec/opcode_table.json -/

/-- `{mnemonic, mode, baseCycles, crossExtra}`; the length follows from the mode (R137). -/
structure Row where
  mnemonic   : Mnemonic
  mode       : ModeName
  cycles     : Nat
  crossExtra : Bool
  deriving DecidableEq, Repr

/-- A row without the `+` of R132 and R133. -/
def row (m : Mnemonic) (k : ModeName) (n : Nat) : Row := ⟨m, k, n, false⟩

/-- A row with the `+`: one more cycle when a page is crossed (R507). -/
def rowPlus (m : Mnemonic) (k : ModeName) (n : Nat) : Row := ⟨m, k, n, true⟩

/-- A byte with no table entry (R135). -/
def rowIll : Row := ⟨.ill, .imp, 0, false⟩

/-- Bytes 0x00 to 0x0F. -/
def rows0 : List Row :=
  [row .brk .imp 7, row .ora .indx 6, rowIll, row .slo .indx 8,
   row .nopU .zp 3, row .ora .zp 3, row .asl .zp 5, row .slo .zp 5,
   row .php .imp 3, row .ora .imm 2, row .asl .acc 2, row .anc .imm 2,
   row .nopU .abs 4, row .ora .abs 4, row .asl .abs 6, row .slo .abs 6]

/-- Bytes 0x10 to 0x1F. -/
def rows1 : List Row :=
  [row .bpl .rel 2, rowPlus .ora .indy 5, rowIll, row .slo .indy 8,
   row .nopU .zpx 4, row .ora .zpx 4, row .asl .zpx 6, row .slo .zpx 6,
   row .clc .imp 2, rowPlus .ora .absy 4, rowIll, row .slo .absy 7,
   rowPlus .nopU .absx 4, rowPlus .ora .absx 4, row .asl .absx 7, row .slo .absx 7]

/-- Bytes 0x20 to 0x2F. -/
def rows2 : List Row :=
  [row .jsr .abs 6, row .and .indx 6, rowIll, row .rla .indx 8,
   row .bit .zp 3, row .and .zp 3, row .rol .zp 5, row .rla .zp 5,
   row .plp .imp 4, row .and .imm 2, row .rol .acc 2, row .anc .imm 2,
   row .bit .abs 4, row .and .abs 4, row .rol .abs 6, row .rla .abs 6]

/-- Bytes 0x30 to 0x3F. -/
def rows3 : List Row :=
  [row .bmi .rel 2, rowPlus .and .indy 5, rowIll, row .rla .indy 8,
   row .nopU .zpx 4, row .and .zpx 4, row .rol .zpx 6, row .rla .zpx 6,
   row .sec .imp 2, rowPlus .and .absy 4, rowIll, row .rla .absy 7,
   rowPlus .nopU .absx 4, rowPlus .and .absx 4, row .rol .absx 7, row .rla .absx 7]

/-- Bytes 0x40 to 0x4F. -/
def rows4 : List Row :=
  [row .rti .imp 6, row .eor .indx 6, rowIll, row .sre .indx 8,
   row .nopU .zp 3, row .eor .zp 3, row .lsr .zp 5, row .sre .zp 5,
   row .pha .imp 3, row .eor .imm 2, row .lsr .acc 2, row .alr .imm 2,
   row .jmp .abs 3, row .eor .abs 4, row .lsr .abs 6, row .sre .abs 6]

/-- Bytes 0x50 to 0x5F. -/
def rows5 : List Row :=
  [row .bvc .rel 2, rowPlus .eor .indy 5, rowIll, row .sre .indy 8,
   row .nopU .zpx 4, row .eor .zpx 4, row .lsr .zpx 6, row .sre .zpx 6,
   row .cli .imp 2, rowPlus .eor .absy 4, rowIll, row .sre .absy 7,
   rowPlus .nopU .absx 4, rowPlus .eor .absx 4, row .lsr .absx 7, row .sre .absx 7]

/-- Bytes 0x60 to 0x6F. -/
def rows6 : List Row :=
  [row .rts .imp 6, row .adc .indx 6, rowIll, row .rra .indx 8,
   row .nopU .zp 3, row .adc .zp 3, row .ror .zp 5, row .rra .zp 5,
   row .pla .imp 4, row .adc .imm 2, row .ror .acc 2, row .arr .imm 2,
   row .jmp .ind 5, row .adc .abs 4, row .ror .abs 6, row .rra .abs 6]

/-- Bytes 0x70 to 0x7F. -/
def rows7 : List Row :=
  [row .bvs .rel 2, rowPlus .adc .indy 5, rowIll, row .rra .indy 8,
   row .nopU .zpx 4, row .adc .zpx 4, row .ror .zpx 6, row .rra .zpx 6,
   row .sei .imp 2, rowPlus .adc .absy 4, rowIll, row .rra .absy 7,
   rowPlus .nopU .absx 4, rowPlus .adc .absx 4, row .ror .absx 7, row .rra .absx 7]

/-- Bytes 0x80 to 0x8F. -/
def rows8 : List Row :=
  [row .nopU .imm 2, row .sta .indx 6, row .nopU .imm 2, row .sax .indx 6,
   row .sty .zp 3, row .sta .zp 3, row .stx .zp 3, row .sax .zp 3,
   row .dey .imp 2, row .nopU .imm 2, row .txa .imp 2, rowIll,
   row .sty .abs 4, row .sta .abs 4, row .stx .abs 4, row .sax .abs 4]

/-- Bytes 0x90 to 0x9F. -/
def rows9 : List Row :=
  [row .bcc .rel 2, row .sta .indy 6, rowIll, rowIll,
   row .sty .zpx 4, row .sta .zpx 4, row .stx .zpy 4, row .sax .zpy 4,
   row .tya .imp 2, row .sta .absy 5, row .txs .imp 2, rowIll,
   rowIll, row .sta .absx 5, rowIll, rowIll]

/-- Bytes 0xA0 to 0xAF. -/
def rowsA : List Row :=
  [row .ldy .imm 2, row .lda .indx 6, row .ldx .imm 2, row .lax .indx 6,
   row .ldy .zp 3, row .lda .zp 3, row .ldx .zp 3, row .lax .zp 3,
   row .tay .imp 2, row .lda .imm 2, row .tax .imp 2, rowIll,
   row .ldy .abs 4, row .lda .abs 4, row .ldx .abs 4, row .lax .abs 4]

/-- Bytes 0xB0 to 0xBF. -/
def rowsB : List Row :=
  [row .bcs .rel 2, rowPlus .lda .indy 5, rowIll, rowPlus .lax .indy 5,
   row .ldy .zpx 4, row .lda .zpx 4, row .ldx .zpy 4, row .lax .zpy 4,
   row .clv .imp 2, rowPlus .lda .absy 4, row .tsx .imp 2, rowPlus .las .absy 4,
   rowPlus .ldy .absx 4, rowPlus .lda .absx 4, rowPlus .ldx .absy 4, rowPlus .lax .absy 4]

/-- Bytes 0xC0 to 0xCF. -/
def rowsC : List Row :=
  [row .cpy .imm 2, row .cmp .indx 6, row .nopU .imm 2, row .dcp .indx 8,
   row .cpy .zp 3, row .cmp .zp 3, row .dec .zp 5, row .dcp .zp 5,
   row .iny .imp 2, row .cmp .imm 2, row .dex .imp 2, row .axs .imm 2,
   row .cpy .abs 4, row .cmp .abs 4, row .dec .abs 6, row .dcp .abs 6]

/-- Bytes 0xD0 to 0xDF. -/
def rowsD : List Row :=
  [row .bne .rel 2, rowPlus .cmp .indy 5, rowIll, row .dcp .indy 8,
   row .nopU .zpx 4, row .cmp .zpx 4, row .dec .zpx 6, row .dcp .zpx 6,
   row .cld .imp 2, rowPlus .cmp .absy 4, rowIll, row .dcp .absy 7,
   rowPlus .nopU .absx 4, rowPlus .cmp .absx 4, row .dec .absx 7, row .dcp .absx 7]

/-- Bytes 0xE0 to 0xEF. -/
def rowsE : List Row :=
  [row .cpx .imm 2, row .sbc .indx 6, row .nopU .imm 2, row .isb .indx 8,
   row .cpx .zp 3, row .sbc .zp 3, row .inc .zp 5, row .isb .zp 5,
   row .inx .imp 2, row .sbc .imm 2, row .nop .imp 2, row .sbcU .imm 2,
   row .cpx .abs 4, row .sbc .abs 4, row .inc .abs 6, row .isb .abs 6]

/-- Bytes 0xF0 to 0xFF. -/
def rowsF : List Row :=
  [row .beq .rel 2, rowPlus .sbc .indy 5, rowIll, row .isb .indy 8,
   row .nopU .zpx 4, row .sbc .zpx 4, row .inc .zpx 6, row .isb .zpx 6,
   row .sed .imp 2, rowPlus .sbc .absy 4, rowIll, row .isb .absy 7,
   rowPlus .nopU .absx 4, rowPlus .sbc .absx 4, row .inc .absx 7, row .isb .absx 7]

/-- The table, row = high nibble (R134). Its cycle counts and page-cross marks are R132's and R133's, which the spec takes from
general knowledge; it is the one definition that R510 asks to keep replaceable (log 25). -/
def opcodeTable : List (List Row) :=
  [rows0, rows1, rows2, rows3, rows4, rows5, rows6, rows7,
   rows8, rows9, rowsA, rowsB, rowsC, rowsD, rowsE, rowsF]

/-- The record of an opcode byte (R138). -/
def rowOf (op : Byte) : Row := (opcodeTable.getD (op.toNat / 16) []).getD (op.toNat % 16) rowIll

/-- The length of a format in bytes (R137). -/
def ModeName.length : ModeName → Nat
  | .imp | .acc => 1
  | .imm | .zp | .zpx | .zpy | .indx | .indy | .rel => 2
  | .abs | .absx | .absy | .ind => 3

/-- The length in bytes an opcode byte fixes (R120, R137). An illegal byte has no length: only the byte itself is
read before the machine faults (R135), which is what the 1 of its row says (log 21). -/
def lengthOf (op : Byte) : Nat := (rowOf op).mode.length

/-! ### Decoding (R120, R134) -/

/-- Bytes 0x00 to 0x0F of the opcode map of R134, with operand bytes `b1` and `b2` in their fields (R121). -/
def decode0 (op b1 b2 : Byte) : List Instr :=
  [.brk, .oraIndx b1, .ill op, .sloIndx b1,
   .nopZp04 b1, .oraZp b1, .aslZp b1, .sloZp b1,
   .php, .oraImm b1, .aslAcc, .ancImm0B b1,
   .nopAbs0C (hilo b2 b1), .oraAbs (hilo b2 b1), .aslAbs (hilo b2 b1), .sloAbs (hilo b2 b1)]

/-- Bytes 0x10 to 0x1F of the opcode map of R134, with operand bytes `b1` and `b2` in their fields (R121). -/
def decode1 (op b1 b2 : Byte) : List Instr :=
  [.bpl b1, .oraIndy b1, .ill op, .sloIndy b1,
   .nopZpx14 b1, .oraZpx b1, .aslZpx b1, .sloZpx b1,
   .clc, .oraAbsy (hilo b2 b1), .ill op, .sloAbsy (hilo b2 b1),
   .nopAbsx1C (hilo b2 b1), .oraAbsx (hilo b2 b1), .aslAbsx (hilo b2 b1), .sloAbsx (hilo b2 b1)]

/-- Bytes 0x20 to 0x2F of the opcode map of R134, with operand bytes `b1` and `b2` in their fields (R121). -/
def decode2 (op b1 b2 : Byte) : List Instr :=
  [.jsrAbs (hilo b2 b1), .andIndx b1, .ill op, .rlaIndx b1,
   .bitZp b1, .andZp b1, .rolZp b1, .rlaZp b1,
   .plp, .andImm b1, .rolAcc, .ancImm2B b1,
   .bitAbs (hilo b2 b1), .andAbs (hilo b2 b1), .rolAbs (hilo b2 b1), .rlaAbs (hilo b2 b1)]

/-- Bytes 0x30 to 0x3F of the opcode map of R134, with operand bytes `b1` and `b2` in their fields (R121). -/
def decode3 (op b1 b2 : Byte) : List Instr :=
  [.bmi b1, .andIndy b1, .ill op, .rlaIndy b1,
   .nopZpx34 b1, .andZpx b1, .rolZpx b1, .rlaZpx b1,
   .sec, .andAbsy (hilo b2 b1), .ill op, .rlaAbsy (hilo b2 b1),
   .nopAbsx3C (hilo b2 b1), .andAbsx (hilo b2 b1), .rolAbsx (hilo b2 b1), .rlaAbsx (hilo b2 b1)]

/-- Bytes 0x40 to 0x4F of the opcode map of R134, with operand bytes `b1` and `b2` in their fields (R121). -/
def decode4 (op b1 b2 : Byte) : List Instr :=
  [.rti, .eorIndx b1, .ill op, .sreIndx b1,
   .nopZp44 b1, .eorZp b1, .lsrZp b1, .sreZp b1,
   .pha, .eorImm b1, .lsrAcc, .alrImm b1,
   .jmpAbs (hilo b2 b1), .eorAbs (hilo b2 b1), .lsrAbs (hilo b2 b1), .sreAbs (hilo b2 b1)]

/-- Bytes 0x50 to 0x5F of the opcode map of R134, with operand bytes `b1` and `b2` in their fields (R121). -/
def decode5 (op b1 b2 : Byte) : List Instr :=
  [.bvc b1, .eorIndy b1, .ill op, .sreIndy b1,
   .nopZpx54 b1, .eorZpx b1, .lsrZpx b1, .sreZpx b1,
   .cli, .eorAbsy (hilo b2 b1), .ill op, .sreAbsy (hilo b2 b1),
   .nopAbsx5C (hilo b2 b1), .eorAbsx (hilo b2 b1), .lsrAbsx (hilo b2 b1), .sreAbsx (hilo b2 b1)]

/-- Bytes 0x60 to 0x6F of the opcode map of R134, with operand bytes `b1` and `b2` in their fields (R121). -/
def decode6 (op b1 b2 : Byte) : List Instr :=
  [.rts, .adcIndx b1, .ill op, .rraIndx b1,
   .nopZp64 b1, .adcZp b1, .rorZp b1, .rraZp b1,
   .pla, .adcImm b1, .rorAcc, .arrImm b1,
   .jmpInd (hilo b2 b1), .adcAbs (hilo b2 b1), .rorAbs (hilo b2 b1), .rraAbs (hilo b2 b1)]

/-- Bytes 0x70 to 0x7F of the opcode map of R134, with operand bytes `b1` and `b2` in their fields (R121). -/
def decode7 (op b1 b2 : Byte) : List Instr :=
  [.bvs b1, .adcIndy b1, .ill op, .rraIndy b1,
   .nopZpx74 b1, .adcZpx b1, .rorZpx b1, .rraZpx b1,
   .sei, .adcAbsy (hilo b2 b1), .ill op, .rraAbsy (hilo b2 b1),
   .nopAbsx7C (hilo b2 b1), .adcAbsx (hilo b2 b1), .rorAbsx (hilo b2 b1), .rraAbsx (hilo b2 b1)]

/-- Bytes 0x80 to 0x8F of the opcode map of R134, with operand bytes `b1` and `b2` in their fields (R121). -/
def decode8 (op b1 b2 : Byte) : List Instr :=
  [.nopImm80 b1, .staIndx b1, .nopImm82 b1, .saxIndx b1,
   .styZp b1, .staZp b1, .stxZp b1, .saxZp b1,
   .dey, .nopImm89 b1, .txa, .ill op,
   .styAbs (hilo b2 b1), .staAbs (hilo b2 b1), .stxAbs (hilo b2 b1), .saxAbs (hilo b2 b1)]

/-- Bytes 0x90 to 0x9F of the opcode map of R134, with operand bytes `b1` and `b2` in their fields (R121). -/
def decode9 (op b1 b2 : Byte) : List Instr :=
  [.bcc b1, .staIndy b1, .ill op, .ill op,
   .styZpx b1, .staZpx b1, .stxZpy b1, .saxZpy b1,
   .tya, .staAbsy (hilo b2 b1), .txs, .ill op,
   .ill op, .staAbsx (hilo b2 b1), .ill op, .ill op]

/-- Bytes 0xA0 to 0xAF of the opcode map of R134, with operand bytes `b1` and `b2` in their fields (R121). -/
def decodeA (op b1 b2 : Byte) : List Instr :=
  [.ldyImm b1, .ldaIndx b1, .ldxImm b1, .laxIndx b1,
   .ldyZp b1, .ldaZp b1, .ldxZp b1, .laxZp b1,
   .tay, .ldaImm b1, .tax, .ill op,
   .ldyAbs (hilo b2 b1), .ldaAbs (hilo b2 b1), .ldxAbs (hilo b2 b1), .laxAbs (hilo b2 b1)]

/-- Bytes 0xB0 to 0xBF of the opcode map of R134, with operand bytes `b1` and `b2` in their fields (R121). -/
def decodeB (op b1 b2 : Byte) : List Instr :=
  [.bcs b1, .ldaIndy b1, .ill op, .laxIndy b1,
   .ldyZpx b1, .ldaZpx b1, .ldxZpy b1, .laxZpy b1,
   .clv, .ldaAbsy (hilo b2 b1), .tsx, .lasAbsy (hilo b2 b1),
   .ldyAbsx (hilo b2 b1), .ldaAbsx (hilo b2 b1), .ldxAbsy (hilo b2 b1), .laxAbsy (hilo b2 b1)]

/-- Bytes 0xC0 to 0xCF of the opcode map of R134, with operand bytes `b1` and `b2` in their fields (R121). -/
def decodeC (_op b1 b2 : Byte) : List Instr :=
  [.cpyImm b1, .cmpIndx b1, .nopImmC2 b1, .dcpIndx b1,
   .cpyZp b1, .cmpZp b1, .decZp b1, .dcpZp b1,
   .iny, .cmpImm b1, .dex, .axsImm b1,
   .cpyAbs (hilo b2 b1), .cmpAbs (hilo b2 b1), .decAbs (hilo b2 b1), .dcpAbs (hilo b2 b1)]

/-- Bytes 0xD0 to 0xDF of the opcode map of R134, with operand bytes `b1` and `b2` in their fields (R121). -/
def decodeD (op b1 b2 : Byte) : List Instr :=
  [.bne b1, .cmpIndy b1, .ill op, .dcpIndy b1,
   .nopZpxD4 b1, .cmpZpx b1, .decZpx b1, .dcpZpx b1,
   .cld, .cmpAbsy (hilo b2 b1), .ill op, .dcpAbsy (hilo b2 b1),
   .nopAbsxDC (hilo b2 b1), .cmpAbsx (hilo b2 b1), .decAbsx (hilo b2 b1), .dcpAbsx (hilo b2 b1)]

/-- Bytes 0xE0 to 0xEF of the opcode map of R134, with operand bytes `b1` and `b2` in their fields (R121). -/
def decodeE (_op b1 b2 : Byte) : List Instr :=
  [.cpxImm b1, .sbcIndx b1, .nopImmE2 b1, .isbIndx b1,
   .cpxZp b1, .sbcZp b1, .incZp b1, .isbZp b1,
   .inx, .sbcImm b1, .nop, .sbcImmEB b1,
   .cpxAbs (hilo b2 b1), .sbcAbs (hilo b2 b1), .incAbs (hilo b2 b1), .isbAbs (hilo b2 b1)]

/-- Bytes 0xF0 to 0xFF of the opcode map of R134, with operand bytes `b1` and `b2` in their fields (R121). -/
def decodeF (op b1 b2 : Byte) : List Instr :=
  [.beq b1, .sbcIndy b1, .ill op, .isbIndy b1,
   .nopZpxF4 b1, .sbcZpx b1, .incZpx b1, .isbZpx b1,
   .sed, .sbcAbsy (hilo b2 b1), .ill op, .isbAbsy (hilo b2 b1),
   .nopAbsxFC (hilo b2 b1), .sbcAbsx (hilo b2 b1), .incAbsx (hilo b2 b1), .isbAbsx (hilo b2 b1)]

/-- The instruction an opcode byte and its operand bytes mean; operand bytes beyond the length are not looked at. -/
def instrOf (op b1 b2 : Byte) : Instr :=
  ([decode0 op b1 b2, decode1 op b1 b2, decode2 op b1 b2, decode3 op b1 b2,
    decode4 op b1 b2, decode5 op b1 b2, decode6 op b1 b2, decode7 op b1 b2,
    decode8 op b1 b2, decode9 op b1 b2, decodeA op b1 b2, decodeB op b1 b2,
    decodeC op b1 b2, decodeD op b1 b2, decodeE op b1 b2, decodeF op b1 b2].getD (op.toNat / 16) []).getD
      (op.toNat % 16) (.ill op)

/-- Why a list of bytes is no instruction. -/
inductive DecodeError
  /-- There is no byte. -/
  | empty
  /-- The opcode byte asks for more operand bytes than the list has. -/
  | truncated (op : Byte)
  deriving DecidableEq, Repr

/-- Reads one instruction from the front of a list of bytes and gives it with the rest. -/
def decode : List Byte → Except DecodeError (Instr × List Byte)
  | [] => .error .empty
  | op :: rest =>
    match lengthOf op, rest with
    | 1, rest => .ok (instrOf op 0 0, rest)
    | 2, b1 :: rest => .ok (instrOf op b1 0, rest)
    | 3, b1 :: b2 :: rest => .ok (instrOf op b1 b2, rest)
    | _, _ => .error (.truncated op)

/-- The three bytes, lowest address first, of an instruction whose bits are `w`, of which the table gives `nbits`;
every bit above them is 0. -/
def wordBytes (nbits w : Nat) : List Byte :=
  let w := w % 2 ^ nbits
  [BitVec.ofNat 8 w, BitVec.ofNat 8 (w / 256), BitVec.ofNat 8 (w / 65536)]

/-- The instruction the decoder reads from an instruction's bits numbered as spec/opcode_table.json numbers them. -/
def decodeTableWord (nbits w : Nat) : Option Instr :=
  match decode (wordBytes nbits w) with
  | .ok (i, _) => some i
  | .error _ => none

/-! ### Encoding (R121, R132, R133) -/

/-- The opcode byte of an instruction: the lists of R132 and R133. -/
def Instr.opcode : Instr → Byte
  | .ldaImm _ => 0xA9
  | .ldaZp _ => 0xA5
  | .ldaZpx _ => 0xB5
  | .ldaAbs _ => 0xAD
  | .ldaAbsx _ => 0xBD
  | .ldaAbsy _ => 0xB9
  | .ldaIndx _ => 0xA1
  | .ldaIndy _ => 0xB1
  | .ldxImm _ => 0xA2
  | .ldxZp _ => 0xA6
  | .ldxZpy _ => 0xB6
  | .ldxAbs _ => 0xAE
  | .ldxAbsy _ => 0xBE
  | .ldyImm _ => 0xA0
  | .ldyZp _ => 0xA4
  | .ldyZpx _ => 0xB4
  | .ldyAbs _ => 0xAC
  | .ldyAbsx _ => 0xBC
  | .staZp _ => 0x85
  | .staZpx _ => 0x95
  | .staAbs _ => 0x8D
  | .staAbsx _ => 0x9D
  | .staAbsy _ => 0x99
  | .staIndx _ => 0x81
  | .staIndy _ => 0x91
  | .stxZp _ => 0x86
  | .stxZpy _ => 0x96
  | .stxAbs _ => 0x8E
  | .styZp _ => 0x84
  | .styZpx _ => 0x94
  | .styAbs _ => 0x8C
  | .tax => 0xAA
  | .tay => 0xA8
  | .txa => 0x8A
  | .tya => 0x98
  | .txs => 0x9A
  | .tsx => 0xBA
  | .adcImm _ => 0x69
  | .adcZp _ => 0x65
  | .adcZpx _ => 0x75
  | .adcAbs _ => 0x6D
  | .adcAbsx _ => 0x7D
  | .adcAbsy _ => 0x79
  | .adcIndx _ => 0x61
  | .adcIndy _ => 0x71
  | .sbcImm _ => 0xE9
  | .sbcZp _ => 0xE5
  | .sbcZpx _ => 0xF5
  | .sbcAbs _ => 0xED
  | .sbcAbsx _ => 0xFD
  | .sbcAbsy _ => 0xF9
  | .sbcIndx _ => 0xE1
  | .sbcIndy _ => 0xF1
  | .andImm _ => 0x29
  | .andZp _ => 0x25
  | .andZpx _ => 0x35
  | .andAbs _ => 0x2D
  | .andAbsx _ => 0x3D
  | .andAbsy _ => 0x39
  | .andIndx _ => 0x21
  | .andIndy _ => 0x31
  | .oraImm _ => 0x09
  | .oraZp _ => 0x05
  | .oraZpx _ => 0x15
  | .oraAbs _ => 0x0D
  | .oraAbsx _ => 0x1D
  | .oraAbsy _ => 0x19
  | .oraIndx _ => 0x01
  | .oraIndy _ => 0x11
  | .eorImm _ => 0x49
  | .eorZp _ => 0x45
  | .eorZpx _ => 0x55
  | .eorAbs _ => 0x4D
  | .eorAbsx _ => 0x5D
  | .eorAbsy _ => 0x59
  | .eorIndx _ => 0x41
  | .eorIndy _ => 0x51
  | .bitZp _ => 0x24
  | .bitAbs _ => 0x2C
  | .cmpImm _ => 0xC9
  | .cmpZp _ => 0xC5
  | .cmpZpx _ => 0xD5
  | .cmpAbs _ => 0xCD
  | .cmpAbsx _ => 0xDD
  | .cmpAbsy _ => 0xD9
  | .cmpIndx _ => 0xC1
  | .cmpIndy _ => 0xD1
  | .cpxImm _ => 0xE0
  | .cpxZp _ => 0xE4
  | .cpxAbs _ => 0xEC
  | .cpyImm _ => 0xC0
  | .cpyZp _ => 0xC4
  | .cpyAbs _ => 0xCC
  | .incZp _ => 0xE6
  | .incZpx _ => 0xF6
  | .incAbs _ => 0xEE
  | .incAbsx _ => 0xFE
  | .decZp _ => 0xC6
  | .decZpx _ => 0xD6
  | .decAbs _ => 0xCE
  | .decAbsx _ => 0xDE
  | .inx => 0xE8
  | .iny => 0xC8
  | .dex => 0xCA
  | .dey => 0x88
  | .aslAcc => 0x0A
  | .aslZp _ => 0x06
  | .aslZpx _ => 0x16
  | .aslAbs _ => 0x0E
  | .aslAbsx _ => 0x1E
  | .lsrAcc => 0x4A
  | .lsrZp _ => 0x46
  | .lsrZpx _ => 0x56
  | .lsrAbs _ => 0x4E
  | .lsrAbsx _ => 0x5E
  | .rolAcc => 0x2A
  | .rolZp _ => 0x26
  | .rolZpx _ => 0x36
  | .rolAbs _ => 0x2E
  | .rolAbsx _ => 0x3E
  | .rorAcc => 0x6A
  | .rorZp _ => 0x66
  | .rorZpx _ => 0x76
  | .rorAbs _ => 0x6E
  | .rorAbsx _ => 0x7E
  | .bpl _ => 0x10
  | .bmi _ => 0x30
  | .bvc _ => 0x50
  | .bvs _ => 0x70
  | .bcc _ => 0x90
  | .bcs _ => 0xB0
  | .bne _ => 0xD0
  | .beq _ => 0xF0
  | .jmpAbs _ => 0x4C
  | .jmpInd _ => 0x6C
  | .jsrAbs _ => 0x20
  | .rts => 0x60
  | .rti => 0x40
  | .brk => 0x00
  | .pha => 0x48
  | .php => 0x08
  | .pla => 0x68
  | .plp => 0x28
  | .clc => 0x18
  | .sec => 0x38
  | .cli => 0x58
  | .sei => 0x78
  | .cld => 0xD8
  | .sed => 0xF8
  | .clv => 0xB8
  | .nop => 0xEA
  | .laxZp _ => 0xA7
  | .laxZpy _ => 0xB7
  | .laxAbs _ => 0xAF
  | .laxAbsy _ => 0xBF
  | .laxIndx _ => 0xA3
  | .laxIndy _ => 0xB3
  | .saxZp _ => 0x87
  | .saxZpy _ => 0x97
  | .saxAbs _ => 0x8F
  | .saxIndx _ => 0x83
  | .dcpZp _ => 0xC7
  | .dcpZpx _ => 0xD7
  | .dcpAbs _ => 0xCF
  | .dcpAbsx _ => 0xDF
  | .dcpAbsy _ => 0xDB
  | .dcpIndx _ => 0xC3
  | .dcpIndy _ => 0xD3
  | .isbZp _ => 0xE7
  | .isbZpx _ => 0xF7
  | .isbAbs _ => 0xEF
  | .isbAbsx _ => 0xFF
  | .isbAbsy _ => 0xFB
  | .isbIndx _ => 0xE3
  | .isbIndy _ => 0xF3
  | .sloZp _ => 0x07
  | .sloZpx _ => 0x17
  | .sloAbs _ => 0x0F
  | .sloAbsx _ => 0x1F
  | .sloAbsy _ => 0x1B
  | .sloIndx _ => 0x03
  | .sloIndy _ => 0x13
  | .rlaZp _ => 0x27
  | .rlaZpx _ => 0x37
  | .rlaAbs _ => 0x2F
  | .rlaAbsx _ => 0x3F
  | .rlaAbsy _ => 0x3B
  | .rlaIndx _ => 0x23
  | .rlaIndy _ => 0x33
  | .sreZp _ => 0x47
  | .sreZpx _ => 0x57
  | .sreAbs _ => 0x4F
  | .sreAbsx _ => 0x5F
  | .sreAbsy _ => 0x5B
  | .sreIndx _ => 0x43
  | .sreIndy _ => 0x53
  | .rraZp _ => 0x67
  | .rraZpx _ => 0x77
  | .rraAbs _ => 0x6F
  | .rraAbsx _ => 0x7F
  | .rraAbsy _ => 0x7B
  | .rraIndx _ => 0x63
  | .rraIndy _ => 0x73
  | .ancImm0B _ => 0x0B
  | .ancImm2B _ => 0x2B
  | .alrImm _ => 0x4B
  | .arrImm _ => 0x6B
  | .axsImm _ => 0xCB
  | .sbcImmEB _ => 0xEB
  | .lasAbsy _ => 0xBB
  | .nopImm80 _ => 0x80
  | .nopImm82 _ => 0x82
  | .nopImm89 _ => 0x89
  | .nopImmC2 _ => 0xC2
  | .nopImmE2 _ => 0xE2
  | .nopZp04 _ => 0x04
  | .nopZp44 _ => 0x44
  | .nopZp64 _ => 0x64
  | .nopZpx14 _ => 0x14
  | .nopZpx34 _ => 0x34
  | .nopZpx54 _ => 0x54
  | .nopZpx74 _ => 0x74
  | .nopZpxD4 _ => 0xD4
  | .nopZpxF4 _ => 0xF4
  | .nopAbs0C _ => 0x0C
  | .nopAbsx1C _ => 0x1C
  | .nopAbsx3C _ => 0x3C
  | .nopAbsx5C _ => 0x5C
  | .nopAbsx7C _ => 0x7C
  | .nopAbsxDC _ => 0xDC
  | .nopAbsxFC _ => 0xFC
  | .ill op => op

/-- The addressing mode of an instruction with its operand bytes (R121, R132, R133). -/
def Instr.mode : Instr → Mode
  | .ldaImm b => .imm b
  | .ldaZp b => .mem (.zp b)
  | .ldaZpx b => .mem (.zpx b)
  | .ldaAbs w => .mem (.abs w)
  | .ldaAbsx w => .mem (.absx w)
  | .ldaAbsy w => .mem (.absy w)
  | .ldaIndx b => .mem (.indx b)
  | .ldaIndy b => .mem (.indy b)
  | .ldxImm b => .imm b
  | .ldxZp b => .mem (.zp b)
  | .ldxZpy b => .mem (.zpy b)
  | .ldxAbs w => .mem (.abs w)
  | .ldxAbsy w => .mem (.absy w)
  | .ldyImm b => .imm b
  | .ldyZp b => .mem (.zp b)
  | .ldyZpx b => .mem (.zpx b)
  | .ldyAbs w => .mem (.abs w)
  | .ldyAbsx w => .mem (.absx w)
  | .staZp b => .mem (.zp b)
  | .staZpx b => .mem (.zpx b)
  | .staAbs w => .mem (.abs w)
  | .staAbsx w => .mem (.absx w)
  | .staAbsy w => .mem (.absy w)
  | .staIndx b => .mem (.indx b)
  | .staIndy b => .mem (.indy b)
  | .stxZp b => .mem (.zp b)
  | .stxZpy b => .mem (.zpy b)
  | .stxAbs w => .mem (.abs w)
  | .styZp b => .mem (.zp b)
  | .styZpx b => .mem (.zpx b)
  | .styAbs w => .mem (.abs w)
  | .tax => .imp
  | .tay => .imp
  | .txa => .imp
  | .tya => .imp
  | .txs => .imp
  | .tsx => .imp
  | .adcImm b => .imm b
  | .adcZp b => .mem (.zp b)
  | .adcZpx b => .mem (.zpx b)
  | .adcAbs w => .mem (.abs w)
  | .adcAbsx w => .mem (.absx w)
  | .adcAbsy w => .mem (.absy w)
  | .adcIndx b => .mem (.indx b)
  | .adcIndy b => .mem (.indy b)
  | .sbcImm b => .imm b
  | .sbcZp b => .mem (.zp b)
  | .sbcZpx b => .mem (.zpx b)
  | .sbcAbs w => .mem (.abs w)
  | .sbcAbsx w => .mem (.absx w)
  | .sbcAbsy w => .mem (.absy w)
  | .sbcIndx b => .mem (.indx b)
  | .sbcIndy b => .mem (.indy b)
  | .andImm b => .imm b
  | .andZp b => .mem (.zp b)
  | .andZpx b => .mem (.zpx b)
  | .andAbs w => .mem (.abs w)
  | .andAbsx w => .mem (.absx w)
  | .andAbsy w => .mem (.absy w)
  | .andIndx b => .mem (.indx b)
  | .andIndy b => .mem (.indy b)
  | .oraImm b => .imm b
  | .oraZp b => .mem (.zp b)
  | .oraZpx b => .mem (.zpx b)
  | .oraAbs w => .mem (.abs w)
  | .oraAbsx w => .mem (.absx w)
  | .oraAbsy w => .mem (.absy w)
  | .oraIndx b => .mem (.indx b)
  | .oraIndy b => .mem (.indy b)
  | .eorImm b => .imm b
  | .eorZp b => .mem (.zp b)
  | .eorZpx b => .mem (.zpx b)
  | .eorAbs w => .mem (.abs w)
  | .eorAbsx w => .mem (.absx w)
  | .eorAbsy w => .mem (.absy w)
  | .eorIndx b => .mem (.indx b)
  | .eorIndy b => .mem (.indy b)
  | .bitZp b => .mem (.zp b)
  | .bitAbs w => .mem (.abs w)
  | .cmpImm b => .imm b
  | .cmpZp b => .mem (.zp b)
  | .cmpZpx b => .mem (.zpx b)
  | .cmpAbs w => .mem (.abs w)
  | .cmpAbsx w => .mem (.absx w)
  | .cmpAbsy w => .mem (.absy w)
  | .cmpIndx b => .mem (.indx b)
  | .cmpIndy b => .mem (.indy b)
  | .cpxImm b => .imm b
  | .cpxZp b => .mem (.zp b)
  | .cpxAbs w => .mem (.abs w)
  | .cpyImm b => .imm b
  | .cpyZp b => .mem (.zp b)
  | .cpyAbs w => .mem (.abs w)
  | .incZp b => .mem (.zp b)
  | .incZpx b => .mem (.zpx b)
  | .incAbs w => .mem (.abs w)
  | .incAbsx w => .mem (.absx w)
  | .decZp b => .mem (.zp b)
  | .decZpx b => .mem (.zpx b)
  | .decAbs w => .mem (.abs w)
  | .decAbsx w => .mem (.absx w)
  | .inx => .imp
  | .iny => .imp
  | .dex => .imp
  | .dey => .imp
  | .aslAcc => .acc
  | .aslZp b => .mem (.zp b)
  | .aslZpx b => .mem (.zpx b)
  | .aslAbs w => .mem (.abs w)
  | .aslAbsx w => .mem (.absx w)
  | .lsrAcc => .acc
  | .lsrZp b => .mem (.zp b)
  | .lsrZpx b => .mem (.zpx b)
  | .lsrAbs w => .mem (.abs w)
  | .lsrAbsx w => .mem (.absx w)
  | .rolAcc => .acc
  | .rolZp b => .mem (.zp b)
  | .rolZpx b => .mem (.zpx b)
  | .rolAbs w => .mem (.abs w)
  | .rolAbsx w => .mem (.absx w)
  | .rorAcc => .acc
  | .rorZp b => .mem (.zp b)
  | .rorZpx b => .mem (.zpx b)
  | .rorAbs w => .mem (.abs w)
  | .rorAbsx w => .mem (.absx w)
  | .bpl b => .rel b
  | .bmi b => .rel b
  | .bvc b => .rel b
  | .bvs b => .rel b
  | .bcc b => .rel b
  | .bcs b => .rel b
  | .bne b => .rel b
  | .beq b => .rel b
  | .jmpAbs w => .mem (.abs w)
  | .jmpInd w => .mem (.ind w)
  | .jsrAbs w => .mem (.abs w)
  | .rts => .imp
  | .rti => .imp
  | .brk => .imp
  | .pha => .imp
  | .php => .imp
  | .pla => .imp
  | .plp => .imp
  | .clc => .imp
  | .sec => .imp
  | .cli => .imp
  | .sei => .imp
  | .cld => .imp
  | .sed => .imp
  | .clv => .imp
  | .nop => .imp
  | .laxZp b => .mem (.zp b)
  | .laxZpy b => .mem (.zpy b)
  | .laxAbs w => .mem (.abs w)
  | .laxAbsy w => .mem (.absy w)
  | .laxIndx b => .mem (.indx b)
  | .laxIndy b => .mem (.indy b)
  | .saxZp b => .mem (.zp b)
  | .saxZpy b => .mem (.zpy b)
  | .saxAbs w => .mem (.abs w)
  | .saxIndx b => .mem (.indx b)
  | .dcpZp b => .mem (.zp b)
  | .dcpZpx b => .mem (.zpx b)
  | .dcpAbs w => .mem (.abs w)
  | .dcpAbsx w => .mem (.absx w)
  | .dcpAbsy w => .mem (.absy w)
  | .dcpIndx b => .mem (.indx b)
  | .dcpIndy b => .mem (.indy b)
  | .isbZp b => .mem (.zp b)
  | .isbZpx b => .mem (.zpx b)
  | .isbAbs w => .mem (.abs w)
  | .isbAbsx w => .mem (.absx w)
  | .isbAbsy w => .mem (.absy w)
  | .isbIndx b => .mem (.indx b)
  | .isbIndy b => .mem (.indy b)
  | .sloZp b => .mem (.zp b)
  | .sloZpx b => .mem (.zpx b)
  | .sloAbs w => .mem (.abs w)
  | .sloAbsx w => .mem (.absx w)
  | .sloAbsy w => .mem (.absy w)
  | .sloIndx b => .mem (.indx b)
  | .sloIndy b => .mem (.indy b)
  | .rlaZp b => .mem (.zp b)
  | .rlaZpx b => .mem (.zpx b)
  | .rlaAbs w => .mem (.abs w)
  | .rlaAbsx w => .mem (.absx w)
  | .rlaAbsy w => .mem (.absy w)
  | .rlaIndx b => .mem (.indx b)
  | .rlaIndy b => .mem (.indy b)
  | .sreZp b => .mem (.zp b)
  | .sreZpx b => .mem (.zpx b)
  | .sreAbs w => .mem (.abs w)
  | .sreAbsx w => .mem (.absx w)
  | .sreAbsy w => .mem (.absy w)
  | .sreIndx b => .mem (.indx b)
  | .sreIndy b => .mem (.indy b)
  | .rraZp b => .mem (.zp b)
  | .rraZpx b => .mem (.zpx b)
  | .rraAbs w => .mem (.abs w)
  | .rraAbsx w => .mem (.absx w)
  | .rraAbsy w => .mem (.absy w)
  | .rraIndx b => .mem (.indx b)
  | .rraIndy b => .mem (.indy b)
  | .ancImm0B b => .imm b
  | .ancImm2B b => .imm b
  | .alrImm b => .imm b
  | .arrImm b => .imm b
  | .axsImm b => .imm b
  | .sbcImmEB b => .imm b
  | .lasAbsy w => .mem (.absy w)
  | .nopImm80 b => .imm b
  | .nopImm82 b => .imm b
  | .nopImm89 b => .imm b
  | .nopImmC2 b => .imm b
  | .nopImmE2 b => .imm b
  | .nopZp04 b => .mem (.zp b)
  | .nopZp44 b => .mem (.zp b)
  | .nopZp64 b => .mem (.zp b)
  | .nopZpx14 b => .mem (.zpx b)
  | .nopZpx34 b => .mem (.zpx b)
  | .nopZpx54 b => .mem (.zpx b)
  | .nopZpx74 b => .mem (.zpx b)
  | .nopZpxD4 b => .mem (.zpx b)
  | .nopZpxF4 b => .mem (.zpx b)
  | .nopAbs0C w => .mem (.abs w)
  | .nopAbsx1C w => .mem (.absx w)
  | .nopAbsx3C w => .mem (.absx w)
  | .nopAbsx5C w => .mem (.absx w)
  | .nopAbsx7C w => .mem (.absx w)
  | .nopAbsxDC w => .mem (.absx w)
  | .nopAbsxFC w => .mem (.absx w)
  | .ill _ => .imp

/-- The operand bytes of a memory format, low byte first (R81, R121). -/
def MemMode.bytes : MemMode → List Byte
  | .zp b | .zpx b | .zpy b | .indx b | .indy b => [b]
  | .abs w | .absx w | .absy w | .ind w => [loByte w, hiByte w]

/-- The operand bytes of a format (R121). -/
def Mode.bytes : Mode → List Byte
  | .imp | .acc => []
  | .imm b | .rel b => [b]
  | .mem m => m.bytes

/-- The bytes of an instruction in address order (R121). -/
def encode (i : Instr) : List Byte := i.opcode :: i.mode.bytes

/-- The mnemonic of an instruction, by its row (R138). -/
def Instr.mnemonic (i : Instr) : Mnemonic :=
  match i with
  | .ill _ => .ill
  | i => (rowOf i.opcode).mnemonic

/-- The length of an instruction in bytes (R137). -/
def Instr.length (i : Instr) : Nat := lengthOf i.opcode

end Sys2Proof
end

