-- ==== Sys2Proof/Config.lean ====
section
/-!
DEFINITION. What is fixed for one instance of the machine: the cartridge (00_scope.md R7), the numeric parameters
(R8), and the one uninterpreted constant (R9). State carries a cartridge and a parameter record (log 3), so every
statement about a state holds for every cartridge and every value of the parameters.
-/

namespace Sys2Proof

/-- The cartridge's nametable arrangement (R7, R93). -/
inductive Mirroring
  | vertical
  | horizontal
  | fourScreen
  deriving DecidableEq, Repr

/-- The two admitted sizes of `PRG`, 16384 and 32768 bytes (R7, D28). -/
inductive PrgSize
  | k16
  | k32
  deriving DecidableEq, Repr

/-- `|PRG|` in bytes (R7). -/
def PrgSize.bytes : PrgSize → Nat
  | .k16 => 16384
  | .k32 => 32768

/-- `|CHR|` in bytes (R7). -/
def chrBytes : Nat := 8192

/-- The cartridge parameters of R7: `PRG`, its size, `CHR`, `MIRRORING`, and `MAPPER`, which no rule reads. -/
structure Cartridge where
  prg       : Memory
  prgSize   : PrgSize
  chr       : Memory
  mirroring : Mirroring
  mapper    : Byte
  deriving DecidableEq, Repr

/-- A cartridge whose bytes are all zero: the one `State.reset` carries (DESIGN CHOICE, unsafe, log 2). -/
def Cartridge.blank : Cartridge :=
  { prg := [], prgSize := .k32, chr := [], mirroring := .horizontal, mapper := 0 }

/-- The numeric parameters of R8. -/
structure Params where
  /-- `SP_RESET`: the value of `S` after `reset()` (D1). -/
  spReset            : Byte
  /-- `NMI_CYCLES`: cycles charged by NMI entry (D3, OPEN). -/
  nmiCycles          : Nat
  /-- `OAM_DMA_CYCLES`: cycles charged by a write to 0x4014 (D4). -/
  oamDmaCycles       : Nat
  /-- `JOYPAD_PRESENT`: whether the joypad answers at 0x4016 (D18). -/
  joypadPresent      : Bool
  /-- `STRICT_WRITE_ONLY_READ`: whether reading a write-only PPU register is fatal (D17). -/
  strictWriteOnlyRead : Bool
  deriving DecidableEq, Repr

/-- The values of R8's third column. `nmiCycles` is OPEN there (D3): 7 is the value of the spec's vectors
(DESIGN CHOICE, unsafe for a claim that rests on it, log 4). -/
def Params.default : Params :=
  { spReset := 0xFD, nmiCycles := 7, oamDmaCycles := 0, joypadPresent := false, strictWriteOnlyRead := false }

/-- `SYSTEM_PALETTE` (R9): a total function from a colour index to a red, green, blue triple, of which nothing else is
known (D27; a free value, safe, log 5). -/
opaque Config.systemPalette : Colour → Byte × Byte × Byte

end Sys2Proof
end

