-- ==== Sys2Proof/Machine/State.lean ====
section
/-!
DEFINITION. The state of the machine (10_state.md R20 to R46, 60_exceptions.md R470), the reasons a step can stop, and
the state after power-on and reset (R48, R481). Everything is plain data.
-/

namespace Sys2Proof.Machine

/-- The six kinds of fatal condition with what each records for the host (R441). -/
inductive FatalKind
  | illegalOpcode (op : Byte) (pc0 : Addr)
  | romWrite (addr : Addr) (v : Byte)
  | ppuStatusWrite (v : Byte)
  | ppuAddrUnused (a : PpuAddr)
  | unsupportedMirroring
  | writeOnlyRead (addr : Addr)
  deriving DecidableEq, Repr

/-- The run state (R45). -/
inductive Run
  | running
  | halted
  | faulted (k : FatalKind)
  deriving DecidableEq, Repr

/-- Which coordinate the next write to 0x2005 sets (R35). -/
inductive ScrollLatch
  | first
  | second
  deriving DecidableEq, Repr

/-- Which byte of `PPU.v` the next write to 0x2006 sets (R36). -/
inductive AddrLatch
  | high
  | low
  deriving DecidableEq, Repr

/-- The PPU state (R30 to R42). -/
structure Ppu where
  ctrl        : Byte
  mask        : Byte
  status      : Byte
  oamAddr     : Byte
  scrollX     : Byte
  scrollY     : Byte
  scrollLatch : ScrollLatch
  v           : PpuAddr
  addrLatch   : AddrLatch
  readBuffer  : Byte
  scanline    : Nat
  dot         : Nat
  pendingNmi  : Bool
  vram        : Memory
  palette     : Memory
  oam         : Memory
  deriving DecidableEq, Repr

/-- The joypad (R470). -/
structure Joypad where
  strobe  : Bool
  index   : Nat
  buttons : Byte
  deriving DecidableEq, Repr

/-- The whole machine. `cart` and `cfg` are the parameters of R7 and R8: no step changes them (log 3). `frameReady` is
the model's own field: whether a `Tick` of the latest step emitted `FrameReady` (R398, R451; DESIGN CHOICE, log 8). -/
structure State where
  a          : Byte
  x          : Byte
  y          : Byte
  sp         : Byte
  p          : Byte
  pc         : Addr
  ram        : Memory
  ppu        : Ppu
  joy        : Joypad
  cycles     : Nat
  run        : Run
  frameReady : Bool
  cart       : Cartridge
  cfg        : Params
  deriving DecidableEq, Repr

/-- The faults: the two cases in which the spec gives `Step` no next state (93_implementation_defined.md U16). A fatal
condition of R441 is no `Fault` here: it is the next state with `run = faulted` (R440, R449; log 6). -/
inductive Fault
  /-- Raised by `step` alone, on a machine that BRK has halted: "`Step` is not defined on a `Halted` machine" (R452).
  Safe: the model has no next state where the spec has none (log 7). -/
  | stepWhileHalted
  /-- Raised by `step` alone, on a machine in the terminal state `Faulted(k)`: "`Step` may not be called again" (R440).
  Safe, for the same reason (log 7). -/
  | stepWhileFaulted (k : FatalKind)
  deriving DecidableEq, Repr

/-- The refusals. -/
inductive Refusal
  /-- Answered by `exec`'s arm of an instruction that has no meaning yet; safe. No arm does: every instruction has its
  meaning. -/
  | notModelled (mnemonic : String)
  deriving DecidableEq, Repr

/-- The result of a piece of one step's work: a value and the state after it, or a fatal condition and the state at
the fault, in which what was done before the faulting access stands (R440, R449). -/
inductive Access (α : Type) where
  | ok (value : α) (s : State)
  | fatal (k : FatalKind) (s : State)
  deriving DecidableEq, Repr

/-- The PPU after power-on (R48, D5); its memories, launch state in the spec, are all zero (DESIGN CHOICE, unsafe,
log 1). -/
def Ppu.powerOn : Ppu :=
  { ctrl := 0, mask := 0, status := 0, oamAddr := 0, scrollX := 0, scrollY := 0, scrollLatch := .first,
    v := 0, addrLatch := .high, readBuffer := 0, scanline := 0, dot := 0, pendingNmi := false,
    vram := [], palette := [], oam := [] }

/-- The joypad after power-on (R470). -/
def Joypad.powerOn : Joypad := { strobe := false, index := 0, buttons := 0 }

/-- The machine after power-on with the blank cartridge and `reset()` (R48, R482, R483). `PC` is the word at 0xFFFC of
that cartridge, 0x0000 (log 2). -/
def State.reset : State :=
  { a := 0, x := 0, y := 0, sp := 0xFD, p := 0x24, pc := 0x0000, ram := [], ppu := Ppu.powerOn,
    joy := Joypad.powerOn, cycles := 0, run := .running, frameReady := false,
    cart := Cartridge.blank, cfg := Params.default }

end Sys2Proof.Machine
end

