-- ==== Sys2Proof/Machine/Joypad.lean ====
section
/-!
DEFINITION. The joypad, present when `JOYPAD_PRESENT` (60_exceptions.md R470 to R472).
-/

namespace Sys2Proof.Machine

/-- Joypad write (R471). -/
def joypadWrite (b : Byte) (j : Joypad) : Joypad :=
  { j with strobe := b.getLsbD 0, index := if b.getLsbD 0 then 0 else j.index }

/-- The byte a joypad read returns (R472). -/
def joypadAnswer (j : Joypad) : Byte :=
  if j.index > 7 then 1 else if j.buttons.getLsbD j.index then 1 else 0

/-- The joypad after a read (R472). -/
def joypadReadEffect (j : Joypad) : Joypad :=
  if j.index > 7 ∨ j.strobe then j else { j with index := j.index + 1 }

end Sys2Proof.Machine
end

