-- ==== Sys2Proof/Machine/Memory.lean ====
section
/-!
DEFINITION. Sparse byte arrays: `RAM`, `PRG`, `CHR`, `PPU.vram`, `PPU.palette`, `PPU.oam` (00_scope.md R6, R60). An
array is the list of its non-zero bytes in rising index order, so that equal arrays are equal lists (log 12).
-/

namespace Sys2Proof

/-- What an index that is not listed reads as. It only fixes how an array is written down: every content of an array
is some list (log 12). -/
def unlistedByte : Byte := 0

/-- The byte at index `i`. -/
def Memory.read : Memory → Nat → Byte
  | [], _ => unlistedByte
  | (k, v) :: m, i => if k = i then v else Memory.read m i

/-- The array without an entry for index `i`. -/
def Memory.erase : Memory → Nat → Memory
  | [], _ => []
  | (k, v) :: m, i => if k = i then Memory.erase m i else (k, v) :: Memory.erase m i

/-- The array with an entry for index `i` before the first larger index. -/
def Memory.insert : Memory → Nat → Byte → Memory
  | [], i, b => [(i, b)]
  | (k, v) :: m, i, b => if i < k then (i, b) :: (k, v) :: m else (k, v) :: Memory.insert m i b

/-- The array with byte `b` at index `i`. -/
def Memory.write (m : Memory) (i : Nat) (b : Byte) : Memory :=
  if b = unlistedByte then m.erase i else (m.erase i).insert i b

/-- The canonical form, from index `lo` on: rising indices below `size`, no unlisted value listed. -/
def Memory.wfFrom (size : Nat) : Nat → Memory → Bool
  | _, [] => true
  | lo, (k, v) :: m => decide (lo ≤ k) && decide (k < size) && (v != unlistedByte) && Memory.wfFrom size (k + 1) m

/-- The canonical form of an array of `size` bytes. -/
def Memory.wf (size : Nat) (m : Memory) : Bool := Memory.wfFrom size 0 m

/-- The array that holds the bytes of a list from index `i` on. -/
def Memory.ofBytesFrom : Nat → List Byte → Memory
  | _, [] => []
  | i, b :: bs => if b = unlistedByte then Memory.ofBytesFrom (i + 1) bs else (i, b) :: Memory.ofBytesFrom (i + 1) bs

/-- The array that holds the bytes of a list. -/
def Memory.ofBytes (bs : List Byte) : Memory := Memory.ofBytesFrom 0 bs

end Sys2Proof
end

