-- ==== Sys2Proof/Machine/Ppu.lean ====
section
/-!
DEFINITION. The PPU address space (20_memory.md R90 to R96) and the PPU register operations (47_ppu_registers.md R352 to
R366). An operation that can be fatal answers the kind; then nothing has changed (R364, R365).
-/

namespace Sys2Proof.Machine

/-! ### The PPU address space -/

/-- The physical VRAM bank of a logical nametable; `FourScreen` has none (R93). -/
def nametableBank : Mirroring → Nat → Except FatalKind Nat
  | .vertical, nt => .ok (nt % 2)
  | .horizontal, nt => .ok (nt / 2)
  | .fourScreen, _ => .error .unsupportedMirroring

/-- `MirrorVram(a)` for `a` in 0x2000 to 0x2FFF (R93). -/
def mirrorVram (mi : Mirroring) (a : PpuAddr) : Except FatalKind Nat :=
  let i := a.toNat - 0x2000
  match nametableBank mi (i / 0x400) with
  | .ok bank => .ok (bank * 0x400 + i % 0x400)
  | .error k => .error k

/-- `PalIndex(a)` for `a` in 0x3F00 to 0x3FFF (R95). -/
def palIndex (a : PpuAddr) : Nat :=
  let i := (a.toNat - 0x3F00) % 32
  if i = 0x10 ∨ i = 0x14 ∨ i = 0x18 ∨ i = 0x1C then i - 0x10 else i

/-- `PpuMemRead(a)` (R90). -/
def ppuMemRead (cart : Cartridge) (u : Ppu) (a : PpuAddr) : Except FatalKind Byte :=
  if a.toNat < 0x2000 then .ok (cart.chr.read a.toNat)
  else if a.toNat < 0x3000 then
    match mirrorVram cart.mirroring a with
    | .ok i => .ok (u.vram.read i)
    | .error k => .error k
  else if a.toNat < 0x3F00 then .error (.ppuAddrUnused a)
  else .ok (u.palette.read (palIndex a))

/-- `PpuMemWrite(a, v)` (R91); a write to CHR is dropped (R92). -/
def ppuMemWrite (cart : Cartridge) (u : Ppu) (a : PpuAddr) (b : Byte) : Except FatalKind Ppu :=
  if a.toNat < 0x2000 then .ok u
  else if a.toNat < 0x3000 then
    match mirrorVram cart.mirroring a with
    | .ok i => .ok { u with vram := u.vram.write i b }
    | .error k => .error k
  else if a.toNat < 0x3F00 then .error (.ppuAddrUnused a)
  else .ok { u with palette := u.palette.write (palIndex a) b }

/-! ### The registers -/

/-- Control write (R352). -/
def controlWrite (b : Byte) (u : Ppu) : Ppu :=
  { u with
    ctrl := b
    pendingNmi := u.pendingNmi || (!u.ctrl.getLsbD 7 && b.getLsbD 7 && u.status.getLsbD 7) }

/-- Mask write (R353). -/
def maskWrite (b : Byte) (u : Ppu) : Ppu := { u with mask := b }

/-- The PPU after a status read; the byte read is the status before it (R355). -/
def statusReadEffect (u : Ppu) : Ppu :=
  { u with status := u.status &&& 0x7F, addrLatch := .high, scrollLatch := .first }

/-- OAM-address write (R357). -/
def oamAddrWrite (b : Byte) (u : Ppu) : Ppu := { u with oamAddr := b }

/-- OAM-data read (R358). -/
def oamDataRead (u : Ppu) : Byte := u.oam.read u.oamAddr.toNat

/-- OAM-data write (R359). -/
def oamDataWrite (b : Byte) (u : Ppu) : Ppu :=
  { u with oam := u.oam.write u.oamAddr.toNat b, oamAddr := u.oamAddr + 1 }

/-- Scroll write (R360). -/
def scrollWrite (b : Byte) (u : Ppu) : Ppu :=
  match u.scrollLatch with
  | .first => { u with scrollX := b, scrollLatch := .second }
  | .second => { u with scrollY := b, scrollLatch := .first }

/-- Address write (R362). -/
def addressWrite (b : Byte) (u : Ppu) : Ppu :=
  match u.addrLatch with
  | .high => { u with v := (b.setWidth 14 <<< 8) ||| (u.v &&& 0x00FF), addrLatch := .low }
  | .low => { u with v := (u.v &&& 0x3F00) ||| b.setWidth 14, addrLatch := .high }

/-- The step of `PPU.v` after a data access (R366). -/
def vStep (u : Ppu) : PpuAddr := if u.ctrl.getLsbD 2 then 32 else 1

/-- Address increment (R366). -/
def incrementV (u : Ppu) : Ppu := { u with v := u.v + vStep u }

/-- Data read (R364): a palette byte at once, any other byte one read late. -/
def dataRead (cart : Cartridge) (u : Ppu) : Except FatalKind (Byte × Ppu) :=
  match ppuMemRead cart u u.v with
  | .error k => .error k
  | .ok b =>
    if 0x3F00 ≤ u.v.toNat then .ok (b, incrementV u)
    else .ok (u.readBuffer, { incrementV u with readBuffer := b })

/-- Data write (R365). -/
def dataWrite (cart : Cartridge) (b : Byte) (u : Ppu) : Except FatalKind Ppu :=
  match ppuMemWrite cart u u.v b with
  | .error k => .error k
  | .ok u => .ok (incrementV u)

end Sys2Proof.Machine
end

