-- ==== Sys2Proof/Machine/Registers.lean ====
section
/-!
DEFINITION. The one way each register of the state is written (10_state.md R12, R20).
-/

namespace Sys2Proof.Machine

/-- `A <- v`. -/
def State.setA (s : State) (v : Byte) : State := { s with a := v }

/-- `X <- v`. -/
def State.setX (s : State) (v : Byte) : State := { s with x := v }

/-- `Y <- v`. -/
def State.setY (s : State) (v : Byte) : State := { s with y := v }

/-- `S <- v`. -/
def State.setSp (s : State) (v : Byte) : State := { s with sp := v }

/-- `P <- v`. -/
def State.setP (s : State) (v : Byte) : State := { s with p := v }

/-- `PC <- w`. -/
def State.setPc (s : State) (w : Addr) : State := { s with pc := w }

/-- `RAM <- m`. -/
def State.setRam (s : State) (m : Memory) : State := { s with ram := m }

/-- The PPU state `<- u`. -/
def State.setPpu (s : State) (u : Ppu) : State := { s with ppu := u }

/-- The joypad state `<- j`. -/
def State.setJoy (s : State) (j : Joypad) : State := { s with joy := j }

/-- `run <- r`. -/
def State.setRun (s : State) (r : Run) : State := { s with run := r }

/-- The output event of the step `<- e` (R398). -/
def State.setFrameReady (s : State) (e : Bool) : State := { s with frameReady := e }

end Sys2Proof.Machine
end

