-- ==== Sys2Proof/Machine/Bus.lean ====
section
/-!
DEFINITION. The CPU bus (20_memory.md R61 to R75, R80) and OAM DMA (47_ppu_registers.md R370).
-/

namespace Sys2Proof.Machine

/-- Runs `f` on the value and state of a completed access; a fatal condition ends the work at once (R440). -/
def Access.andThen {α β : Type} (r : Access α) (f : α → State → Access β) : Access β :=
  match r with
  | .ok v s => f v s
  | .fatal k s => .fatal k s

/-- The index in `RAM` of an address below 0x2000, `addr & 0x07FF` (R64). -/
def ramIndex (addr : Addr) : Nat := addr.toNat % 0x800

/-- The index in `PRG` of an address from 0x8000 on (R74). -/
def prgIndex (cart : Cartridge) (addr : Addr) : Nat := (addr.toNat - 0x8000) % cart.prgSize.bytes

/-- `PRG[(addr - 0x8000) mod |PRG|]` (R74). -/
def prgByte (cart : Cartridge) (addr : Addr) : Byte := cart.prg.read (prgIndex cart addr)

/-- A read of a write-only register (R67, R354). -/
def writeOnlyRead (addr : Addr) (s : State) : Access Byte :=
  if s.cfg.strictWriteOnlyRead then .fatal (.writeOnlyRead addr) s else .ok 0 s

/-- A read of the PPU window (R65). -/
def ppuRegRead (addr : Addr) (s : State) : Access Byte :=
  match addr.toNat % 8 with
  | 2 => .ok s.ppu.status (s.setPpu (statusReadEffect s.ppu))
  | 4 => .ok (oamDataRead s.ppu) s
  | 7 =>
    match dataRead s.cart s.ppu with
    | .ok (b, u) => .ok b (s.setPpu u)
    | .error k => .fatal k s
  | _ => writeOnlyRead addr s

/-- A read of 0x4016 (R72, R472). -/
def joypadRead (s : State) : Access Byte :=
  if s.cfg.joypadPresent then .ok (joypadAnswer s.joy) (s.setJoy (joypadReadEffect s.joy)) else .ok 0 s

/-- `MemRead(addr, 1)` (R61). -/
def memRead (addr : Addr) (s : State) : Access Byte :=
  if addr.toNat < 0x2000 then .ok (s.ram.read (ramIndex addr)) s
  else if addr.toNat < 0x4000 then ppuRegRead addr s
  else if addr.toNat = 0x4014 then writeOnlyRead addr s
  else if addr.toNat = 0x4016 then joypadRead s
  else if addr.toNat < 0x8000 then .ok 0 s
  else .ok (prgByte s.cart addr) s

/-- `MemRead(addr, 2)` (R80): low byte first, the second address wrapping. -/
def memRead2 (addr : Addr) (s : State) : Access Addr :=
  (memRead addr s).andThen fun lo s =>
  (memRead (addr + 1) s).andThen fun hi s =>
  .ok (hilo hi lo) s

/-- The rest of an OAM DMA: `n` more bytes, the next from offset `i` of page `page` (R370). -/
def dmaFrom : Nat → Nat → Byte → State → Access Unit
  | 0, _, _, s => .ok () s
  | n + 1, i, page, s =>
    (memRead (hilo page (BitVec.ofNat 8 i)) s).andThen fun b s =>
    dmaFrom n (i + 1) page (s.setPpu (oamDataWrite b s.ppu))

/-- OAM DMA from a page (R370); it charges `OAM_DMA_CYCLES`. -/
def oamDma (page : Byte) (s : State) : Access Nat :=
  (dmaFrom 256 0 page s).andThen fun _ s => .ok s.cfg.oamDmaCycles s

/-- A write to the PPU window (R66). -/
def ppuRegWrite (addr : Addr) (b : Byte) (s : State) : Access Nat :=
  match addr.toNat % 8 with
  | 0 => .ok 0 (s.setPpu (controlWrite b s.ppu))
  | 1 => .ok 0 (s.setPpu (maskWrite b s.ppu))
  | 2 => .fatal (.ppuStatusWrite b) s
  | 3 => .ok 0 (s.setPpu (oamAddrWrite b s.ppu))
  | 4 => .ok 0 (s.setPpu (oamDataWrite b s.ppu))
  | 5 => .ok 0 (s.setPpu (scrollWrite b s.ppu))
  | 6 => .ok 0 (s.setPpu (addressWrite b s.ppu))
  | _ =>
    match dataWrite s.cart b s.ppu with
    | .ok u => .ok 0 (s.setPpu u)
    | .error k => .fatal k s

/-- A write to 0x4016 (R72, R471). -/
def joypadPortWrite (b : Byte) (s : State) : Access Nat :=
  if s.cfg.joypadPresent then .ok 0 (s.setJoy (joypadWrite b s.joy)) else .ok 0 s

/-- `MemWrite(addr, 1, b)` (R62). Its value is the number of cycles the write charges to the instruction: 0, but for
the OAM DMA port (R370, R509). -/
def memWrite (addr : Addr) (b : Byte) (s : State) : Access Nat :=
  if addr.toNat < 0x2000 then .ok 0 (s.setRam (s.ram.write (ramIndex addr) b))
  else if addr.toNat < 0x4000 then ppuRegWrite addr b s
  else if addr.toNat = 0x4014 then oamDma b s
  else if addr.toNat = 0x4016 then joypadPortWrite b s
  else if addr.toNat < 0x8000 then .ok 0 s
  else .fatal (.romWrite addr b) s

end Sys2Proof.Machine
end

