-- ==== Sys2Proof/Machine/Flags.lean ====
section
/-!
DEFINITION. The status register `P` and every flag computation: the layout of R24, `SetZN` (R25), the adder (R190), the
compare (R197), the byte pushed and the byte restored (R264, R282, R284, R457).
-/

namespace Sys2Proof.Machine

/-- The eight flags (R24). -/
inductive Flag
  | c | z | i | d | b1 | b2 | v | n
  deriving DecidableEq, Repr

/-- The bit of a flag in `P` (R24). -/
def Flag.bit : Flag → Nat
  | .c => 0
  | .z => 1
  | .i => 2
  | .d => 3
  | .b1 => 4
  | .b2 => 5
  | .v => 6
  | .n => 7

/-- The mask of a flag in `P` (R24). -/
def Flag.mask (f : Flag) : Byte := 1#8 <<< f.bit

/-- The flag `f` of a status byte. -/
def getFlag (p : Byte) (f : Flag) : Bool := p.getLsbD f.bit

/-- The status byte with flag `f` set to `b` and every other bit as it was. -/
def putFlag (p : Byte) (f : Flag) (b : Bool) : Byte := if b then p ||| f.mask else p &&& ~~~ f.mask

/-- `P.f` (R12). -/
def State.flag (s : State) (f : Flag) : Bool := getFlag s.p f

/-- `P.f <- b` (R12). -/
def State.setFlag (s : State) (f : Flag) (b : Bool) : State := s.setP (putFlag s.p f b)

/-- The status byte after `SetZN(v)` (R25). -/
def znFlags (p v : Byte) : Byte := putFlag (putFlag p .z (v == 0)) .n (v.getLsbD 7)

/-- `SetZN(v)` (R25). -/
def State.setZN (s : State) (v : Byte) : State := s.setP (znFlags s.p v)

/-- The 9-bit sum `A + m + C` of R190, exact. -/
def adderSum (a m : Byte) (c : Bool) : Nat := a.toNat + m.toNat + c.toNat

/-- The result byte of R190. -/
def adderResult (a m : Byte) (c : Bool) : Byte := BitVec.ofNat 8 (adderSum a m c)

/-- The carry out of R190. -/
def adderCarry (a m : Byte) (c : Bool) : Bool := decide (adderSum a m c > 0xFF)

/-- The overflow of R190: `((m ^ r) & (r ^ A) & 0x80) != 0`. -/
def adderOverflow (a m : Byte) (c : Bool) : Bool :=
  ((m ^^^ adderResult a m c) &&& (adderResult a m c ^^^ a) &&& 0x80) != 0

/-- `AddWithCarry(m)` (R190). `P.D` is not read (R207). -/
def addWithCarry (m : Byte) (s : State) : State :=
  let a := s.a
  let c := s.flag .c
  let r := adderResult a m c
  (((s.setFlag .c (adderCarry a m c)).setFlag .v (adderOverflow a m c)).setA r).setZN r

/-- `Compare(reg, m)` (R197). -/
def compareWith (reg m : Byte) (s : State) : State :=
  (s.setFlag .c (decide (m ≤ reg))).setZN (reg - m)

/-- The status byte PLP and RTI restore from a popped byte: Break1 cleared, Break2 forced to 1 (R264, R284). -/
def restoredP (f : Byte) : Byte := (f &&& 0xEF) ||| 0x20

/-- The status byte NMI entry pushes: Break1 = 0, Break2 = 1 (R457). -/
def nmiPushedP (p : Byte) : Byte := (p &&& 0xEF) ||| 0x20

/-- The status byte PHP pushes: Break1 and Break2 both 1 (R282). -/
def phpPushedP (p : Byte) : Byte := p ||| 0x30

end Sys2Proof.Machine
end

