-- ==== Sys2Proof/Machine/Timing.lean ====
section
/-!
DEFINITION. PPU time (48_ppu_timing.md): one dot, the two events, and `Tick`.
-/

namespace Sys2Proof.Machine

/-- Dots in a scanline (R390). -/
def dotsPerLine : Nat := 341

/-- Scanlines in a frame (R390). -/
def linesPerFrame : Nat := 262

/-- Dots in a frame, 89342 (R390). -/
def dotsPerFrame : Nat := dotsPerLine * linesPerFrame

/-- Vblank onset, at scanline 241 dot 1 (R393). -/
def vblankOnset (u : Ppu) : Ppu :=
  { u with
    status := (u.status ||| 0x80) &&& 0xBF
    pendingNmi := u.pendingNmi || u.ctrl.getLsbD 7 }

/-- Frame wrap, on leaving scanline 261 (R394). -/
def frameWrap (u : Ppu) : Ppu := { u with status := u.status &&& 0x3F, pendingNmi := false }

/-- The counters one dot on, with the frame wrap where scanline 261 is left (R391, R394). -/
def countDot (u : Ppu) : Ppu :=
  if u.dot + 1 = dotsPerLine then
    if u.scanline + 1 = linesPerFrame then frameWrap { u with dot := 0, scanline := 0 }
    else { u with dot := 0, scanline := u.scanline + 1 }
  else { u with dot := u.dot + 1 }

/-- Dot advance, the PPU's only transition (R391). -/
def dotAdvance (u : Ppu) : Ppu :=
  let u := countDot u
  if u.scanline = 241 ∧ u.dot = 1 then vblankOnset u else u

/-- `n` dot advances. -/
def advanceDots : Nat → Ppu → Ppu
  | 0, u => u
  | n + 1, u => advanceDots n (dotAdvance u)

/-- `Tick(n)` (R396): `n` CPU cycles, `3n` dots, and `FrameReady` when the request newly rose (R398). -/
def tick (n : Nat) (s : State) : State :=
  let u := advanceDots (3 * n) s.ppu
  { s with
    cycles := s.cycles + n
    ppu := u
    frameReady := s.frameReady || (!s.ppu.pendingNmi && u.pendingNmi) }

/-- The position in the frame, in dots (R397). -/
def framePosition (u : Ppu) : Nat := u.scanline * dotsPerLine + u.dot

end Sys2Proof.Machine
end

