-- ==== Sys2Proof/Machine/Ops.lean ====
section
/-!
DEFINITION. The stack (10_state.md R26 to R29), the end of an instruction (R450, R505), fatal conditions (R440), halting
(R452), and the one exception, NMI, with its return (60_exceptions.md R456, R457, 43_control_flow.md R264).
-/

namespace Sys2Proof.Machine

/-! ### The stack -/

/-- The address of the stack byte `S` names, `0x0100 + S` (R22). -/
def stackAddr (sp : Byte) : Addr := hilo 0x01 sp

/-- `Push(b)` (R26). -/
def push (b : Byte) (s : State) : Access Unit :=
  (memWrite (stackAddr s.sp) b s).andThen fun _ s => .ok () (s.setSp (s.sp - 1))

/-- `Pop()` (R27). -/
def pop (s : State) : Access Byte :=
  memRead (stackAddr (s.sp + 1)) (s.setSp (s.sp + 1))

/-- `Push16(w)` (R28): high byte first. -/
def push16 (w : Addr) (s : State) : Access Unit :=
  (push (hiByte w) s).andThen fun _ s => push (loByte w) s

/-- `Pop16()` (R29): low byte first. -/
def pop16 (s : State) : Access Addr :=
  (pop s).andThen fun lo s =>
  (pop s).andThen fun hi s =>
  .ok (hilo hi lo) s

/-! ### The end of an instruction -/

/-- `raise Fatal(k)` (R440). The rest of the state is as the accesses left it, `PC` still at the opcode (R449). -/
def State.raise (s : State) (k : FatalKind) : State := s.setRun (.faulted k)

/-- `pc <- next` for the instruction whose opcode byte `op` is at `PC` (R23). -/
def advance (op : Byte) (s : State) : State := s.setPc (s.pc + BitVec.ofNat 16 (lengthOf op))

/-- The end of an instruction's work: `Tick` of the base cycles of its opcode and of what it charged beside them
(R505, R506), or the state at a fatal condition, with no `Tick` (R449). -/
def finish (op : Byte) (r : Access Nat) : Host.Outcome State Fault Refusal :=
  match r with
  | .ok extra s => .next (tick ((rowOf op).cycles + extra) s)
  | .fatal k s => .next (s.raise k)

/-- The page-cross cycle of an opcode (R507). -/
def crossCharge (op : Byte) (crossed : Bool) : Nat := if (rowOf op).crossExtra && crossed then 1 else 0

/-- Fetching a byte with no table entry (R135, R442). -/
def illegalOpcode (op : Byte) (s : State) : Host.Outcome State Fault Refusal :=
  .next (s.raise (.illegalOpcode op s.pc))

/-- BRK ends the run: `PC` moves on, nothing is pushed, no `Tick` (R265, R452). -/
def halt (op : Byte) (s : State) : Host.Outcome State Fault Refusal :=
  .next ((advance op s).setRun .halted)

/-! ### The NMI -/

/-- NMI entry (R457). -/
def nmiEntry (s : State) : Access Unit :=
  (push16 s.pc s).andThen fun _ s =>
  (push (nmiPushedP s.p) s).andThen fun _ s =>
  (memRead2 0xFFFA (tick s.cfg.nmiCycles (s.setFlag .i true))).andThen fun target s =>
  .ok () (s.setPc target)

/-- The poll before each fetch (R456): a pending request is cleared and the NMI entered. -/
def pollNmi (s : State) : Access Unit :=
  if s.ppu.pendingNmi then nmiEntry (s.setPpu { s.ppu with pendingNmi := false }) else .ok () s

/-- Return from interrupt (R264): status, then `PC` with no adjustment. Its value is the cycles charged beside the
base. -/
def returnFromInterrupt (s : State) : Access Nat :=
  (pop s).andThen fun f s =>
  (pop16 (s.setP (restoredP f))).andThen fun target s =>
  .ok 0 (s.setPc target)

end Sys2Proof.Machine
end

