-- ==== Sys2Proof/Machine/Operands.lean ====
section
/-!
DEFINITION. Addressing modes (30_encoding.md R122 to R129) and the shapes instructions have: read, store,
read-modify-write, register only, branch. An instruction's meaning names its opcode byte (for its cycles and length, R138),
its operand and its effect; the access order is R105's.
-/

namespace Sys2Proof.Machine

/-! ### Effective addresses -/

/-- The word whose low byte is at `lo` and high byte at `hi`, read low byte first (R81). -/
def readPointer (lo hi : Addr) (s : State) : Access Addr :=
  (memRead lo s).andThen fun l s =>
  (memRead hi s).andThen fun h s =>
  .ok (hilo h l) s

/-- `base +16 index` with whether the page changed (R125). -/
def indexed (base : Addr) (index : Byte) : Addr × Bool :=
  (base + zext16 index, pageDiffers (base + zext16 index) base)

/-- `(EA, crossed)` of a memory format (R124 to R127). -/
def effAddr (m : MemMode) (s : State) : Access (Addr × Bool) :=
  match m with
  | .zp b => .ok (zext16 b, false) s
  | .zpx b => .ok (zext16 (b + s.x), false) s
  | .zpy b => .ok (zext16 (b + s.y), false) s
  | .abs w => .ok (w, false) s
  | .absx w => .ok (indexed w s.x) s
  | .absy w => .ok (indexed w s.y) s
  | .indx b => (readPointer (zext16 (b + s.x)) (zext16 (b + s.x + 1)) s).andThen fun ea s => .ok (ea, false) s
  | .indy b => (readPointer (zext16 b) (zext16 (b + 1)) s).andThen fun base s => .ok (indexed base s.y) s
  | .ind w => (readPointer w (hilo (hiByte w) (loByte w + 1)) s).andThen fun ea s => .ok (ea, false) s

/-- `Operand()` with `crossed` (R123, R128). -/
def readOperand (o : Operand) (s : State) : Access (Byte × Bool) :=
  match o with
  | .imm b => .ok (b, false) s
  | .mem m =>
    (effAddr m s).andThen fun ea s =>
    (memRead ea.1 s).andThen fun b s =>
    .ok (b, ea.2) s

/-! ### Shapes of instructions -/

/-- An instruction that reads its operand and then changes registers by `f` (R160 to R162, R191 to R200, R311, R324,
R325). -/
def readOp (op : Byte) (f : Byte → State → State) (o : Operand) (s : State) : Host.Outcome State Fault Refusal :=
  finish op <| (readOperand o s).andThen fun m s => .ok (crossCharge op m.2) (advance op (f m.1 s))

/-- An instruction that stores the byte `v` gives, with no read of the address (R128, R163 to R165, R312). -/
def storeOp (op : Byte) (v : State → Byte) (m : MemMode) (s : State) : Host.Outcome State Fault Refusal :=
  finish op <| (effAddr m s).andThen fun ea s =>
    (memWrite ea.1 (v s) s).andThen fun n s => .ok n (advance op s)

/-- An instruction that reads a byte of memory, writes back the byte `f` makes of it, and then changes registers by `g`
of the byte written (R83, R201, R202, R230, R313 to R318). What `f` does to `P` precedes the write (R449). -/
def rmwOp (op : Byte) (f : Byte → State → Byte × State) (g : Byte → State → State) (m : MemMode) (s : State) :
    Host.Outcome State Fault Refusal :=
  finish op <| (effAddr m s).andThen fun ea s =>
    (memRead ea.1 s).andThen fun b s =>
    (memWrite ea.1 (f b s).1 (f b s).2).andThen fun n s' => .ok n (advance op (g (f b s).1 s'))

/-- An instruction that only changes registers (R166 to R171, R203 to R206, R285 to R292). -/
def registerOp (op : Byte) (f : State → State) (s : State) : Host.Outcome State Fault Refusal :=
  finish op (.ok 0 (advance op (f s)))

/-- An instruction whose work is `f`, on the stack alone (R281 to R284). -/
def stackOp (op : Byte) (f : State → Access Unit) (s : State) : Host.Outcome State Fault Refusal :=
  finish op <| (f s).andThen fun _ s => .ok 0 (advance op s)

/-- A control transfer whose work `f` ends with `PC` at its target (R250). -/
def jumpOp (op : Byte) (f : State → Access Nat) (s : State) : Host.Outcome State Fault Refusal :=
  finish op (f s)

/-- `next`, the address after a two-byte instruction at `PC` (R129). -/
def branchNext (s : State) : Addr := s.pc + 2

/-- The target of a branch (R129). -/
def branchTarget (b : Byte) (s : State) : Addr := branchNext s + sext16 b

/-- `Branch(cond)` (R251): what the branch charges beside its base, and `PC`. -/
def branchIf (cond : Bool) (b : Byte) (s : State) : Access Nat :=
  if cond then
    .ok (1 + if pageDiffers (branchTarget b s) (branchNext s) then 1 else 0) (s.setPc (branchTarget b s))
  else .ok 0 (s.setPc (branchNext s))

end Sys2Proof.Machine
end

