-- ==== Sys2Proof/Machine/Arith.lean ====
section
/-!
DEFINITION. Arithmetic, logic, compare, increment and decrement (41_arithmetic_logic.md R190 to R208).
-/

namespace Sys2Proof.Machine

/-- R191, row 69 (imm). -/
def execAdcImm (b : Byte) (s : State) : Host.Outcome State Fault Refusal :=
  readOp 0x69 addWithCarry (.imm b) s

/-- R191, row 65 (zp). -/
def execAdcZp (b : Byte) (s : State) : Host.Outcome State Fault Refusal :=
  readOp 0x65 addWithCarry (.mem (.zp b)) s

/-- R191, row 75 (zpx). -/
def execAdcZpx (b : Byte) (s : State) : Host.Outcome State Fault Refusal :=
  readOp 0x75 addWithCarry (.mem (.zpx b)) s

/-- R191, row 6D (abs). -/
def execAdcAbs (w : Addr) (s : State) : Host.Outcome State Fault Refusal :=
  readOp 0x6D addWithCarry (.mem (.abs w)) s

/-- R191, row 7D (absx). -/
def execAdcAbsx (w : Addr) (s : State) : Host.Outcome State Fault Refusal :=
  readOp 0x7D addWithCarry (.mem (.absx w)) s

/-- R191, row 79 (absy). -/
def execAdcAbsy (w : Addr) (s : State) : Host.Outcome State Fault Refusal :=
  readOp 0x79 addWithCarry (.mem (.absy w)) s

/-- R191, row 61 (indx). -/
def execAdcIndx (b : Byte) (s : State) : Host.Outcome State Fault Refusal :=
  readOp 0x61 addWithCarry (.mem (.indx b)) s

/-- R191, row 71 (indy). -/
def execAdcIndy (b : Byte) (s : State) : Host.Outcome State Fault Refusal :=
  readOp 0x71 addWithCarry (.mem (.indy b)) s

/-- SBC routes `~m` through the adder (R192). -/
def subtractWithCarry (m : Byte) (s : State) : State := addWithCarry (~~~ m) s

/-- R192, row E9 (imm). -/
def execSbcImm (b : Byte) (s : State) : Host.Outcome State Fault Refusal :=
  readOp 0xE9 subtractWithCarry (.imm b) s

/-- R192, row E5 (zp). -/
def execSbcZp (b : Byte) (s : State) : Host.Outcome State Fault Refusal :=
  readOp 0xE5 subtractWithCarry (.mem (.zp b)) s

/-- R192, row F5 (zpx). -/
def execSbcZpx (b : Byte) (s : State) : Host.Outcome State Fault Refusal :=
  readOp 0xF5 subtractWithCarry (.mem (.zpx b)) s

/-- R192, row ED (abs). -/
def execSbcAbs (w : Addr) (s : State) : Host.Outcome State Fault Refusal :=
  readOp 0xED subtractWithCarry (.mem (.abs w)) s

/-- R192, row FD (absx). -/
def execSbcAbsx (w : Addr) (s : State) : Host.Outcome State Fault Refusal :=
  readOp 0xFD subtractWithCarry (.mem (.absx w)) s

/-- R192, row F9 (absy). -/
def execSbcAbsy (w : Addr) (s : State) : Host.Outcome State Fault Refusal :=
  readOp 0xF9 subtractWithCarry (.mem (.absy w)) s

/-- R192, row E1 (indx). -/
def execSbcIndx (b : Byte) (s : State) : Host.Outcome State Fault Refusal :=
  readOp 0xE1 subtractWithCarry (.mem (.indx b)) s

/-- R192, row F1 (indy). -/
def execSbcIndy (b : Byte) (s : State) : Host.Outcome State Fault Refusal :=
  readOp 0xF1 subtractWithCarry (.mem (.indy b)) s

/-- `A <- A & m; SetZN(A)` (R193). -/
def andA (m : Byte) (s : State) : State := (s.setA (s.a &&& m)).setZN (s.a &&& m)

/-- R193, row 29 (imm). -/
def execAndImm (b : Byte) (s : State) : Host.Outcome State Fault Refusal :=
  readOp 0x29 andA (.imm b) s

/-- R193, row 25 (zp). -/
def execAndZp (b : Byte) (s : State) : Host.Outcome State Fault Refusal :=
  readOp 0x25 andA (.mem (.zp b)) s

/-- R193, row 35 (zpx). -/
def execAndZpx (b : Byte) (s : State) : Host.Outcome State Fault Refusal :=
  readOp 0x35 andA (.mem (.zpx b)) s

/-- R193, row 2D (abs). -/
def execAndAbs (w : Addr) (s : State) : Host.Outcome State Fault Refusal :=
  readOp 0x2D andA (.mem (.abs w)) s

/-- R193, row 3D (absx). -/
def execAndAbsx (w : Addr) (s : State) : Host.Outcome State Fault Refusal :=
  readOp 0x3D andA (.mem (.absx w)) s

/-- R193, row 39 (absy). -/
def execAndAbsy (w : Addr) (s : State) : Host.Outcome State Fault Refusal :=
  readOp 0x39 andA (.mem (.absy w)) s

/-- R193, row 21 (indx). -/
def execAndIndx (b : Byte) (s : State) : Host.Outcome State Fault Refusal :=
  readOp 0x21 andA (.mem (.indx b)) s

/-- R193, row 31 (indy). -/
def execAndIndy (b : Byte) (s : State) : Host.Outcome State Fault Refusal :=
  readOp 0x31 andA (.mem (.indy b)) s

/-- `A <- A | m; SetZN(A)` (R194). -/
def orA (m : Byte) (s : State) : State := (s.setA (s.a ||| m)).setZN (s.a ||| m)

/-- R194, row 09 (imm). -/
def execOraImm (b : Byte) (s : State) : Host.Outcome State Fault Refusal :=
  readOp 0x09 orA (.imm b) s

/-- R194, row 05 (zp). -/
def execOraZp (b : Byte) (s : State) : Host.Outcome State Fault Refusal :=
  readOp 0x05 orA (.mem (.zp b)) s

/-- R194, row 15 (zpx). -/
def execOraZpx (b : Byte) (s : State) : Host.Outcome State Fault Refusal :=
  readOp 0x15 orA (.mem (.zpx b)) s

/-- R194, row 0D (abs). -/
def execOraAbs (w : Addr) (s : State) : Host.Outcome State Fault Refusal :=
  readOp 0x0D orA (.mem (.abs w)) s

/-- R194, row 1D (absx). -/
def execOraAbsx (w : Addr) (s : State) : Host.Outcome State Fault Refusal :=
  readOp 0x1D orA (.mem (.absx w)) s

/-- R194, row 19 (absy). -/
def execOraAbsy (w : Addr) (s : State) : Host.Outcome State Fault Refusal :=
  readOp 0x19 orA (.mem (.absy w)) s

/-- R194, row 01 (indx). -/
def execOraIndx (b : Byte) (s : State) : Host.Outcome State Fault Refusal :=
  readOp 0x01 orA (.mem (.indx b)) s

/-- R194, row 11 (indy). -/
def execOraIndy (b : Byte) (s : State) : Host.Outcome State Fault Refusal :=
  readOp 0x11 orA (.mem (.indy b)) s

/-- `A <- A ^ m; SetZN(A)` (R195). -/
def eorA (m : Byte) (s : State) : State := (s.setA (s.a ^^^ m)).setZN (s.a ^^^ m)

/-- R195, row 49 (imm). -/
def execEorImm (b : Byte) (s : State) : Host.Outcome State Fault Refusal :=
  readOp 0x49 eorA (.imm b) s

/-- R195, row 45 (zp). -/
def execEorZp (b : Byte) (s : State) : Host.Outcome State Fault Refusal :=
  readOp 0x45 eorA (.mem (.zp b)) s

/-- R195, row 55 (zpx). -/
def execEorZpx (b : Byte) (s : State) : Host.Outcome State Fault Refusal :=
  readOp 0x55 eorA (.mem (.zpx b)) s

/-- R195, row 4D (abs). -/
def execEorAbs (w : Addr) (s : State) : Host.Outcome State Fault Refusal :=
  readOp 0x4D eorA (.mem (.abs w)) s

/-- R195, row 5D (absx). -/
def execEorAbsx (w : Addr) (s : State) : Host.Outcome State Fault Refusal :=
  readOp 0x5D eorA (.mem (.absx w)) s

/-- R195, row 59 (absy). -/
def execEorAbsy (w : Addr) (s : State) : Host.Outcome State Fault Refusal :=
  readOp 0x59 eorA (.mem (.absy w)) s

/-- R195, row 41 (indx). -/
def execEorIndx (b : Byte) (s : State) : Host.Outcome State Fault Refusal :=
  readOp 0x41 eorA (.mem (.indx b)) s

/-- R195, row 51 (indy). -/
def execEorIndy (b : Byte) (s : State) : Host.Outcome State Fault Refusal :=
  readOp 0x51 eorA (.mem (.indy b)) s

/-- BIT: `Z` from `A & m`, `N` and `V` from the byte itself (R196). -/
def bitTest (m : Byte) (s : State) : State :=
  ((s.setFlag .z ((s.a &&& m) == 0)).setFlag .n (m.getLsbD 7)).setFlag .v (m.getLsbD 6)

/-- R196, row 24 (zp). -/
def execBitZp (b : Byte) (s : State) : Host.Outcome State Fault Refusal :=
  readOp 0x24 bitTest (.mem (.zp b)) s

/-- R196, row 2C (abs). -/
def execBitAbs (w : Addr) (s : State) : Host.Outcome State Fault Refusal :=
  readOp 0x2C bitTest (.mem (.abs w)) s

/-- R198, row C9 (imm). -/
def execCmpImm (b : Byte) (s : State) : Host.Outcome State Fault Refusal :=
  readOp 0xC9 (fun m s => compareWith s.a m s) (.imm b) s

/-- R198, row C5 (zp). -/
def execCmpZp (b : Byte) (s : State) : Host.Outcome State Fault Refusal :=
  readOp 0xC5 (fun m s => compareWith s.a m s) (.mem (.zp b)) s

/-- R198, row D5 (zpx). -/
def execCmpZpx (b : Byte) (s : State) : Host.Outcome State Fault Refusal :=
  readOp 0xD5 (fun m s => compareWith s.a m s) (.mem (.zpx b)) s

/-- R198, row CD (abs). -/
def execCmpAbs (w : Addr) (s : State) : Host.Outcome State Fault Refusal :=
  readOp 0xCD (fun m s => compareWith s.a m s) (.mem (.abs w)) s

/-- R198, row DD (absx). -/
def execCmpAbsx (w : Addr) (s : State) : Host.Outcome State Fault Refusal :=
  readOp 0xDD (fun m s => compareWith s.a m s) (.mem (.absx w)) s

/-- R198, row D9 (absy). -/
def execCmpAbsy (w : Addr) (s : State) : Host.Outcome State Fault Refusal :=
  readOp 0xD9 (fun m s => compareWith s.a m s) (.mem (.absy w)) s

/-- R198, row C1 (indx). -/
def execCmpIndx (b : Byte) (s : State) : Host.Outcome State Fault Refusal :=
  readOp 0xC1 (fun m s => compareWith s.a m s) (.mem (.indx b)) s

/-- R198, row D1 (indy). -/
def execCmpIndy (b : Byte) (s : State) : Host.Outcome State Fault Refusal :=
  readOp 0xD1 (fun m s => compareWith s.a m s) (.mem (.indy b)) s

/-- R199, row E0 (imm). -/
def execCpxImm (b : Byte) (s : State) : Host.Outcome State Fault Refusal :=
  readOp 0xE0 (fun m s => compareWith s.x m s) (.imm b) s

/-- R199, row E4 (zp). -/
def execCpxZp (b : Byte) (s : State) : Host.Outcome State Fault Refusal :=
  readOp 0xE4 (fun m s => compareWith s.x m s) (.mem (.zp b)) s

/-- R199, row EC (abs). -/
def execCpxAbs (w : Addr) (s : State) : Host.Outcome State Fault Refusal :=
  readOp 0xEC (fun m s => compareWith s.x m s) (.mem (.abs w)) s

/-- R200, row C0 (imm). -/
def execCpyImm (b : Byte) (s : State) : Host.Outcome State Fault Refusal :=
  readOp 0xC0 (fun m s => compareWith s.y m s) (.imm b) s

/-- R200, row C4 (zp). -/
def execCpyZp (b : Byte) (s : State) : Host.Outcome State Fault Refusal :=
  readOp 0xC4 (fun m s => compareWith s.y m s) (.mem (.zp b)) s

/-- R200, row CC (abs). -/
def execCpyAbs (w : Addr) (s : State) : Host.Outcome State Fault Refusal :=
  readOp 0xCC (fun m s => compareWith s.y m s) (.mem (.abs w)) s

/-- `SetZN(r)` of the byte written back (R201, R202, R230). -/
def flagsOfResult (r : Byte) (s : State) : State := s.setZN r


/-- `m +8 1` (R201). -/
def incByte (m : Byte) (s : State) : Byte × State := (m + 1, s)

/-- R201, row E6 (zp). -/
def execIncZp (b : Byte) (s : State) : Host.Outcome State Fault Refusal :=
  rmwOp 0xE6 incByte flagsOfResult (.zp b) s

/-- R201, row F6 (zpx). -/
def execIncZpx (b : Byte) (s : State) : Host.Outcome State Fault Refusal :=
  rmwOp 0xF6 incByte flagsOfResult (.zpx b) s

/-- R201, row EE (abs). -/
def execIncAbs (w : Addr) (s : State) : Host.Outcome State Fault Refusal :=
  rmwOp 0xEE incByte flagsOfResult (.abs w) s

/-- R201, row FE (absx). -/
def execIncAbsx (w : Addr) (s : State) : Host.Outcome State Fault Refusal :=
  rmwOp 0xFE incByte flagsOfResult (.absx w) s

/-- `m -8 1` (R202). -/
def decByte (m : Byte) (s : State) : Byte × State := (m - 1, s)

/-- R202, row C6 (zp). -/
def execDecZp (b : Byte) (s : State) : Host.Outcome State Fault Refusal :=
  rmwOp 0xC6 decByte flagsOfResult (.zp b) s

/-- R202, row D6 (zpx). -/
def execDecZpx (b : Byte) (s : State) : Host.Outcome State Fault Refusal :=
  rmwOp 0xD6 decByte flagsOfResult (.zpx b) s

/-- R202, row CE (abs). -/
def execDecAbs (w : Addr) (s : State) : Host.Outcome State Fault Refusal :=
  rmwOp 0xCE decByte flagsOfResult (.abs w) s

/-- R202, row DE (absx). -/
def execDecAbsx (w : Addr) (s : State) : Host.Outcome State Fault Refusal :=
  rmwOp 0xDE decByte flagsOfResult (.absx w) s

/-- R203, row E8 (imp). -/
def execInx (s : State) : Host.Outcome State Fault Refusal :=
  registerOp 0xE8 (fun s => (s.setX (s.x + 1)).setZN (s.x + 1)) s

/-- R204, row C8 (imp). -/
def execIny (s : State) : Host.Outcome State Fault Refusal :=
  registerOp 0xC8 (fun s => (s.setY (s.y + 1)).setZN (s.y + 1)) s

/-- R205, row CA (imp). -/
def execDex (s : State) : Host.Outcome State Fault Refusal :=
  registerOp 0xCA (fun s => (s.setX (s.x - 1)).setZN (s.x - 1)) s

/-- R206, row 88 (imp). -/
def execDey (s : State) : Host.Outcome State Fault Refusal :=
  registerOp 0x88 (fun s => (s.setY (s.y - 1)).setZN (s.y - 1)) s

end Sys2Proof.Machine
end

