-- ==== Sys2Proof/Machine/Control.lean ====
section
/-!
DEFINITION. Control transfer (43_control_flow.md R250 to R266).
-/

namespace Sys2Proof.Machine

/-- R252, row 10 (rel). -/
def execBpl (b : Byte) (s : State) : Host.Outcome State Fault Refusal :=
  jumpOp 0x10 (fun s => branchIf (!s.flag .n) b s) s

/-- R253, row 30 (rel). -/
def execBmi (b : Byte) (s : State) : Host.Outcome State Fault Refusal :=
  jumpOp 0x30 (fun s => branchIf (s.flag .n) b s) s

/-- R254, row 50 (rel). -/
def execBvc (b : Byte) (s : State) : Host.Outcome State Fault Refusal :=
  jumpOp 0x50 (fun s => branchIf (!s.flag .v) b s) s

/-- R255, row 70 (rel). -/
def execBvs (b : Byte) (s : State) : Host.Outcome State Fault Refusal :=
  jumpOp 0x70 (fun s => branchIf (s.flag .v) b s) s

/-- R256, row 90 (rel). -/
def execBcc (b : Byte) (s : State) : Host.Outcome State Fault Refusal :=
  jumpOp 0x90 (fun s => branchIf (!s.flag .c) b s) s

/-- R257, row B0 (rel). -/
def execBcs (b : Byte) (s : State) : Host.Outcome State Fault Refusal :=
  jumpOp 0xB0 (fun s => branchIf (s.flag .c) b s) s

/-- R258, row D0 (rel). -/
def execBne (b : Byte) (s : State) : Host.Outcome State Fault Refusal :=
  jumpOp 0xD0 (fun s => branchIf (!s.flag .z) b s) s

/-- R259, row F0 (rel). -/
def execBeq (b : Byte) (s : State) : Host.Outcome State Fault Refusal :=
  jumpOp 0xF0 (fun s => branchIf (s.flag .z) b s) s

/-- Jump to the effective address (R260, R261). -/
def jumpTo (m : MemMode) (s : State) : Access Nat :=
  (effAddr m s).andThen fun ea s => .ok 0 (s.setPc ea.1)

/-- R260, row 4C (abs). -/
def execJmpAbs (w : Addr) (s : State) : Host.Outcome State Fault Refusal :=
  jumpOp 0x4C (jumpTo (.abs w)) s

/-- R261, row 6C (ind). -/
def execJmpInd (w : Addr) (s : State) : Host.Outcome State Fault Refusal :=
  jumpOp 0x6C (jumpTo (.ind w)) s

/-- Push the address of the JSR's last byte, then jump (R262). -/
def callSubroutine (w : Addr) (s : State) : Access Nat :=
  (push16 (s.pc + 2) s).andThen fun _ s => .ok 0 (s.setPc w)

/-- R262, row 20 (abs). -/
def execJsrAbs (w : Addr) (s : State) : Host.Outcome State Fault Refusal :=
  jumpOp 0x20 (callSubroutine w) s

/-- Pop the address and add one (R263). -/
def returnFromSubroutine (s : State) : Access Nat :=
  (pop16 s).andThen fun w s => .ok 0 (s.setPc (w + 1))

/-- R263, row 60 (imp). -/
def execRts (s : State) : Host.Outcome State Fault Refusal :=
  jumpOp 0x60 returnFromSubroutine s

/-- R264, row 40 (imp). -/
def execRti (s : State) : Host.Outcome State Fault Refusal :=
  jumpOp 0x40 returnFromInterrupt s

/-- R265, row 00 (imp). -/
def execBrk (s : State) : Host.Outcome State Fault Refusal :=
  halt 0x00 s

end Sys2Proof.Machine
end

