-- ==== Sys2Proof/Machine/LoadStore.lean ====
section
/-!
DEFINITION. Loads, stores and register transfers (40_load_store_transfer.md R160 to R172).
-/

namespace Sys2Proof.Machine

/-- `A <- m; SetZN(m)` (R160). -/
def loadA (m : Byte) (s : State) : State := (s.setA m).setZN m

/-- R160, row A9 (imm). -/
def execLdaImm (b : Byte) (s : State) : Host.Outcome State Fault Refusal :=
  readOp 0xA9 loadA (.imm b) s

/-- R160, row A5 (zp). -/
def execLdaZp (b : Byte) (s : State) : Host.Outcome State Fault Refusal :=
  readOp 0xA5 loadA (.mem (.zp b)) s

/-- R160, row B5 (zpx). -/
def execLdaZpx (b : Byte) (s : State) : Host.Outcome State Fault Refusal :=
  readOp 0xB5 loadA (.mem (.zpx b)) s

/-- R160, row AD (abs). -/
def execLdaAbs (w : Addr) (s : State) : Host.Outcome State Fault Refusal :=
  readOp 0xAD loadA (.mem (.abs w)) s

/-- R160, row BD (absx). -/
def execLdaAbsx (w : Addr) (s : State) : Host.Outcome State Fault Refusal :=
  readOp 0xBD loadA (.mem (.absx w)) s

/-- R160, row B9 (absy). -/
def execLdaAbsy (w : Addr) (s : State) : Host.Outcome State Fault Refusal :=
  readOp 0xB9 loadA (.mem (.absy w)) s

/-- R160, row A1 (indx). -/
def execLdaIndx (b : Byte) (s : State) : Host.Outcome State Fault Refusal :=
  readOp 0xA1 loadA (.mem (.indx b)) s

/-- R160, row B1 (indy). -/
def execLdaIndy (b : Byte) (s : State) : Host.Outcome State Fault Refusal :=
  readOp 0xB1 loadA (.mem (.indy b)) s

/-- `X <- m; SetZN(m)` (R161). -/
def loadX (m : Byte) (s : State) : State := (s.setX m).setZN m

/-- R161, row A2 (imm). -/
def execLdxImm (b : Byte) (s : State) : Host.Outcome State Fault Refusal :=
  readOp 0xA2 loadX (.imm b) s

/-- R161, row A6 (zp). -/
def execLdxZp (b : Byte) (s : State) : Host.Outcome State Fault Refusal :=
  readOp 0xA6 loadX (.mem (.zp b)) s

/-- R161, row B6 (zpy). -/
def execLdxZpy (b : Byte) (s : State) : Host.Outcome State Fault Refusal :=
  readOp 0xB6 loadX (.mem (.zpy b)) s

/-- R161, row AE (abs). -/
def execLdxAbs (w : Addr) (s : State) : Host.Outcome State Fault Refusal :=
  readOp 0xAE loadX (.mem (.abs w)) s

/-- R161, row BE (absy). -/
def execLdxAbsy (w : Addr) (s : State) : Host.Outcome State Fault Refusal :=
  readOp 0xBE loadX (.mem (.absy w)) s

/-- `Y <- m; SetZN(m)` (R162). -/
def loadY (m : Byte) (s : State) : State := (s.setY m).setZN m

/-- R162, row A0 (imm). -/
def execLdyImm (b : Byte) (s : State) : Host.Outcome State Fault Refusal :=
  readOp 0xA0 loadY (.imm b) s

/-- R162, row A4 (zp). -/
def execLdyZp (b : Byte) (s : State) : Host.Outcome State Fault Refusal :=
  readOp 0xA4 loadY (.mem (.zp b)) s

/-- R162, row B4 (zpx). -/
def execLdyZpx (b : Byte) (s : State) : Host.Outcome State Fault Refusal :=
  readOp 0xB4 loadY (.mem (.zpx b)) s

/-- R162, row AC (abs). -/
def execLdyAbs (w : Addr) (s : State) : Host.Outcome State Fault Refusal :=
  readOp 0xAC loadY (.mem (.abs w)) s

/-- R162, row BC (absx). -/
def execLdyAbsx (w : Addr) (s : State) : Host.Outcome State Fault Refusal :=
  readOp 0xBC loadY (.mem (.absx w)) s

/-- R163, row 85 (zp). -/
def execStaZp (b : Byte) (s : State) : Host.Outcome State Fault Refusal :=
  storeOp 0x85 State.a (.zp b) s

/-- R163, row 95 (zpx). -/
def execStaZpx (b : Byte) (s : State) : Host.Outcome State Fault Refusal :=
  storeOp 0x95 State.a (.zpx b) s

/-- R163, row 8D (abs). -/
def execStaAbs (w : Addr) (s : State) : Host.Outcome State Fault Refusal :=
  storeOp 0x8D State.a (.abs w) s

/-- R163, row 9D (absx). -/
def execStaAbsx (w : Addr) (s : State) : Host.Outcome State Fault Refusal :=
  storeOp 0x9D State.a (.absx w) s

/-- R163, row 99 (absy). -/
def execStaAbsy (w : Addr) (s : State) : Host.Outcome State Fault Refusal :=
  storeOp 0x99 State.a (.absy w) s

/-- R163, row 81 (indx). -/
def execStaIndx (b : Byte) (s : State) : Host.Outcome State Fault Refusal :=
  storeOp 0x81 State.a (.indx b) s

/-- R163, row 91 (indy). -/
def execStaIndy (b : Byte) (s : State) : Host.Outcome State Fault Refusal :=
  storeOp 0x91 State.a (.indy b) s

/-- R164, row 86 (zp). -/
def execStxZp (b : Byte) (s : State) : Host.Outcome State Fault Refusal :=
  storeOp 0x86 State.x (.zp b) s

/-- R164, row 96 (zpy). -/
def execStxZpy (b : Byte) (s : State) : Host.Outcome State Fault Refusal :=
  storeOp 0x96 State.x (.zpy b) s

/-- R164, row 8E (abs). -/
def execStxAbs (w : Addr) (s : State) : Host.Outcome State Fault Refusal :=
  storeOp 0x8E State.x (.abs w) s

/-- R165, row 84 (zp). -/
def execStyZp (b : Byte) (s : State) : Host.Outcome State Fault Refusal :=
  storeOp 0x84 State.y (.zp b) s

/-- R165, row 94 (zpx). -/
def execStyZpx (b : Byte) (s : State) : Host.Outcome State Fault Refusal :=
  storeOp 0x94 State.y (.zpx b) s

/-- R165, row 8C (abs). -/
def execStyAbs (w : Addr) (s : State) : Host.Outcome State Fault Refusal :=
  storeOp 0x8C State.y (.abs w) s

/-- R166, row AA (imp). -/
def execTax (s : State) : Host.Outcome State Fault Refusal :=
  registerOp 0xAA (fun s => loadX s.a s) s

/-- R167, row A8 (imp). -/
def execTay (s : State) : Host.Outcome State Fault Refusal :=
  registerOp 0xA8 (fun s => loadY s.a s) s

/-- R168, row 8A (imp). -/
def execTxa (s : State) : Host.Outcome State Fault Refusal :=
  registerOp 0x8A (fun s => loadA s.x s) s

/-- R169, row 98 (imp). -/
def execTya (s : State) : Host.Outcome State Fault Refusal :=
  registerOp 0x98 (fun s => loadA s.y s) s

/-- `S <- X`, with no flag written (R170). -/
def copyXToSp (s : State) : State := s.setSp s.x

/-- R170, row 9A (imp). -/
def execTxs (s : State) : Host.Outcome State Fault Refusal :=
  registerOp 0x9A copyXToSp s

/-- R171, row BA (imp). -/
def execTsx (s : State) : Host.Outcome State Fault Refusal :=
  registerOp 0xBA (fun s => loadX s.sp s) s

end Sys2Proof.Machine
end

