-- ==== Sys2Proof/Machine/Shift.lean ====
section
/-!
DEFINITION. Shifts and rotates (42_shift_rotate.md R230 to R234). Each gives the result byte and the state with `P.C` the
bit shifted out.
-/

namespace Sys2Proof.Machine

/-- The accumulator form: `v <- A; A <- r; SetZN(r)` (R230). -/
def onAccumulator (f : Byte → State → Byte × State) (s : State) : State :=
  ((f s.a s).2.setA (f s.a s).1).setZN (f s.a s).1


/-- `P.C <- v[7]; r <- v << 1` (R231). -/
def aslByte (v : Byte) (s : State) : Byte × State := (v <<< 1, s.setFlag .c (v.getLsbD 7))

/-- R231, row 0A (acc). -/
def execAslAcc (s : State) : Host.Outcome State Fault Refusal :=
  registerOp 0x0A (onAccumulator aslByte) s

/-- R231, row 06 (zp). -/
def execAslZp (b : Byte) (s : State) : Host.Outcome State Fault Refusal :=
  rmwOp 0x06 aslByte flagsOfResult (.zp b) s

/-- R231, row 16 (zpx). -/
def execAslZpx (b : Byte) (s : State) : Host.Outcome State Fault Refusal :=
  rmwOp 0x16 aslByte flagsOfResult (.zpx b) s

/-- R231, row 0E (abs). -/
def execAslAbs (w : Addr) (s : State) : Host.Outcome State Fault Refusal :=
  rmwOp 0x0E aslByte flagsOfResult (.abs w) s

/-- R231, row 1E (absx). -/
def execAslAbsx (w : Addr) (s : State) : Host.Outcome State Fault Refusal :=
  rmwOp 0x1E aslByte flagsOfResult (.absx w) s

/-- `P.C <- v[0]; r <- v >> 1` (R232). -/
def lsrByte (v : Byte) (s : State) : Byte × State := (v >>> 1, s.setFlag .c (v.getLsbD 0))

/-- R232, row 4A (acc). -/
def execLsrAcc (s : State) : Host.Outcome State Fault Refusal :=
  registerOp 0x4A (onAccumulator lsrByte) s

/-- R232, row 46 (zp). -/
def execLsrZp (b : Byte) (s : State) : Host.Outcome State Fault Refusal :=
  rmwOp 0x46 lsrByte flagsOfResult (.zp b) s

/-- R232, row 56 (zpx). -/
def execLsrZpx (b : Byte) (s : State) : Host.Outcome State Fault Refusal :=
  rmwOp 0x56 lsrByte flagsOfResult (.zpx b) s

/-- R232, row 4E (abs). -/
def execLsrAbs (w : Addr) (s : State) : Host.Outcome State Fault Refusal :=
  rmwOp 0x4E lsrByte flagsOfResult (.abs w) s

/-- R232, row 5E (absx). -/
def execLsrAbsx (w : Addr) (s : State) : Host.Outcome State Fault Refusal :=
  rmwOp 0x5E lsrByte flagsOfResult (.absx w) s

/-- The old carry enters bit 0 (R233). -/
def rolByte (v : Byte) (s : State) : Byte × State :=
  ((v <<< 1) ||| (if s.flag .c then 0x01 else 0), s.setFlag .c (v.getLsbD 7))

/-- R233, row 2A (acc). -/
def execRolAcc (s : State) : Host.Outcome State Fault Refusal :=
  registerOp 0x2A (onAccumulator rolByte) s

/-- R233, row 26 (zp). -/
def execRolZp (b : Byte) (s : State) : Host.Outcome State Fault Refusal :=
  rmwOp 0x26 rolByte flagsOfResult (.zp b) s

/-- R233, row 36 (zpx). -/
def execRolZpx (b : Byte) (s : State) : Host.Outcome State Fault Refusal :=
  rmwOp 0x36 rolByte flagsOfResult (.zpx b) s

/-- R233, row 2E (abs). -/
def execRolAbs (w : Addr) (s : State) : Host.Outcome State Fault Refusal :=
  rmwOp 0x2E rolByte flagsOfResult (.abs w) s

/-- R233, row 3E (absx). -/
def execRolAbsx (w : Addr) (s : State) : Host.Outcome State Fault Refusal :=
  rmwOp 0x3E rolByte flagsOfResult (.absx w) s

/-- The old carry enters bit 7 (R234). -/
def rorByte (v : Byte) (s : State) : Byte × State :=
  ((v >>> 1) ||| (if s.flag .c then 0x80 else 0), s.setFlag .c (v.getLsbD 0))

/-- R234, row 6A (acc). -/
def execRorAcc (s : State) : Host.Outcome State Fault Refusal :=
  registerOp 0x6A (onAccumulator rorByte) s

/-- R234, row 66 (zp). -/
def execRorZp (b : Byte) (s : State) : Host.Outcome State Fault Refusal :=
  rmwOp 0x66 rorByte flagsOfResult (.zp b) s

/-- R234, row 76 (zpx). -/
def execRorZpx (b : Byte) (s : State) : Host.Outcome State Fault Refusal :=
  rmwOp 0x76 rorByte flagsOfResult (.zpx b) s

/-- R234, row 6E (abs). -/
def execRorAbs (w : Addr) (s : State) : Host.Outcome State Fault Refusal :=
  rmwOp 0x6E rorByte flagsOfResult (.abs w) s

/-- R234, row 7E (absx). -/
def execRorAbsx (w : Addr) (s : State) : Host.Outcome State Fault Refusal :=
  rmwOp 0x7E rorByte flagsOfResult (.absx w) s

end Sys2Proof.Machine
end

