-- ==== Sys2Proof/Machine/Stack.lean ====
section
/-!
DEFINITION. Stack instructions, flag instructions and NOP (44_stack_flags_nop.md R280 to R292).
-/

namespace Sys2Proof.Machine

/-- R281, row 48 (imp). -/
def execPha (s : State) : Host.Outcome State Fault Refusal :=
  stackOp 0x48 (fun s => push s.a s) s

/-- R282, row 08 (imp). -/
def execPhp (s : State) : Host.Outcome State Fault Refusal :=
  stackOp 0x08 (fun s => push (phpPushedP s.p) s) s

/-- `A <- Pop(); SetZN(A)` (R283). -/
def pullA (s : State) : Access Unit := (pop s).andThen fun b s => .ok () ((s.setA b).setZN b)

/-- R283, row 68 (imp). -/
def execPla (s : State) : Host.Outcome State Fault Refusal :=
  stackOp 0x68 pullA s

/-- `P` from the popped byte, Break1 cleared and Break2 forced (R284). -/
def pullP (s : State) : Access Unit := (pop s).andThen fun b s => .ok () (s.setP (restoredP b))

/-- R284, row 28 (imp). -/
def execPlp (s : State) : Host.Outcome State Fault Refusal :=
  stackOp 0x28 pullP s

/-- R285, row 18 (imp). -/
def execClc (s : State) : Host.Outcome State Fault Refusal :=
  registerOp 0x18 (fun s => s.setFlag .c false) s

/-- R286, row 38 (imp). -/
def execSec (s : State) : Host.Outcome State Fault Refusal :=
  registerOp 0x38 (fun s => s.setFlag .c true) s

/-- R287, row 58 (imp). -/
def execCli (s : State) : Host.Outcome State Fault Refusal :=
  registerOp 0x58 (fun s => s.setFlag .i false) s

/-- R288, row 78 (imp). -/
def execSei (s : State) : Host.Outcome State Fault Refusal :=
  registerOp 0x78 (fun s => s.setFlag .i true) s

/-- R289, row D8 (imp). -/
def execCld (s : State) : Host.Outcome State Fault Refusal :=
  registerOp 0xD8 (fun s => s.setFlag .d false) s

/-- R290, row F8 (imp). -/
def execSed (s : State) : Host.Outcome State Fault Refusal :=
  registerOp 0xF8 (fun s => s.setFlag .d true) s

/-- R291, row B8 (imp). -/
def execClv (s : State) : Host.Outcome State Fault Refusal :=
  registerOp 0xB8 (fun s => s.setFlag .v false) s

/-- R292, row EA (imp). -/
def execNop (s : State) : Host.Outcome State Fault Refusal :=
  registerOp 0xEA id s

end Sys2Proof.Machine
end

