-- ==== Sys2Proof/Machine/Undocumented.lean ====
section
/-!
DEFINITION. The undocumented instructions (45_undocumented.md R310 to R325), admitted as D31 has it (log 11), and the 25
bytes with no table entry (R135, R326).
-/

namespace Sys2Proof.Machine

/-- `A <- m; X <- m; SetZN(m)` (R311). -/
def loadAX (m : Byte) (s : State) : State := ((s.setA m).setX m).setZN m

/-- R311, row A7 (zp). -/
def execLaxZp (b : Byte) (s : State) : Host.Outcome State Fault Refusal :=
  readOp 0xA7 loadAX (.mem (.zp b)) s

/-- R311, row B7 (zpy). -/
def execLaxZpy (b : Byte) (s : State) : Host.Outcome State Fault Refusal :=
  readOp 0xB7 loadAX (.mem (.zpy b)) s

/-- R311, row AF (abs). -/
def execLaxAbs (w : Addr) (s : State) : Host.Outcome State Fault Refusal :=
  readOp 0xAF loadAX (.mem (.abs w)) s

/-- R311, row BF (absy). -/
def execLaxAbsy (w : Addr) (s : State) : Host.Outcome State Fault Refusal :=
  readOp 0xBF loadAX (.mem (.absy w)) s

/-- R311, row A3 (indx). -/
def execLaxIndx (b : Byte) (s : State) : Host.Outcome State Fault Refusal :=
  readOp 0xA3 loadAX (.mem (.indx b)) s

/-- R311, row B3 (indy). -/
def execLaxIndy (b : Byte) (s : State) : Host.Outcome State Fault Refusal :=
  readOp 0xB3 loadAX (.mem (.indy b)) s

/-- `A & X` (R312). -/
def andAX (s : State) : Byte := s.a &&& s.x

/-- R312, row 87 (zp). -/
def execSaxZp (b : Byte) (s : State) : Host.Outcome State Fault Refusal :=
  storeOp 0x87 andAX (.zp b) s

/-- R312, row 97 (zpy). -/
def execSaxZpy (b : Byte) (s : State) : Host.Outcome State Fault Refusal :=
  storeOp 0x97 andAX (.zpy b) s

/-- R312, row 8F (abs). -/
def execSaxAbs (w : Addr) (s : State) : Host.Outcome State Fault Refusal :=
  storeOp 0x8F andAX (.abs w) s

/-- R312, row 83 (indx). -/
def execSaxIndx (b : Byte) (s : State) : Host.Outcome State Fault Refusal :=
  storeOp 0x83 andAX (.indx b) s

/-- R313, row C7 (zp). -/
def execDcpZp (b : Byte) (s : State) : Host.Outcome State Fault Refusal :=
  rmwOp 0xC7 decByte (fun r s => compareWith s.a r s) (.zp b) s

/-- R313, row D7 (zpx). -/
def execDcpZpx (b : Byte) (s : State) : Host.Outcome State Fault Refusal :=
  rmwOp 0xD7 decByte (fun r s => compareWith s.a r s) (.zpx b) s

/-- R313, row CF (abs). -/
def execDcpAbs (w : Addr) (s : State) : Host.Outcome State Fault Refusal :=
  rmwOp 0xCF decByte (fun r s => compareWith s.a r s) (.abs w) s

/-- R313, row DF (absx). -/
def execDcpAbsx (w : Addr) (s : State) : Host.Outcome State Fault Refusal :=
  rmwOp 0xDF decByte (fun r s => compareWith s.a r s) (.absx w) s

/-- R313, row DB (absy). -/
def execDcpAbsy (w : Addr) (s : State) : Host.Outcome State Fault Refusal :=
  rmwOp 0xDB decByte (fun r s => compareWith s.a r s) (.absy w) s

/-- R313, row C3 (indx). -/
def execDcpIndx (b : Byte) (s : State) : Host.Outcome State Fault Refusal :=
  rmwOp 0xC3 decByte (fun r s => compareWith s.a r s) (.indx b) s

/-- R313, row D3 (indy). -/
def execDcpIndy (b : Byte) (s : State) : Host.Outcome State Fault Refusal :=
  rmwOp 0xD3 decByte (fun r s => compareWith s.a r s) (.indy b) s

/-- R314, row E7 (zp). -/
def execIsbZp (b : Byte) (s : State) : Host.Outcome State Fault Refusal :=
  rmwOp 0xE7 incByte subtractWithCarry (.zp b) s

/-- R314, row F7 (zpx). -/
def execIsbZpx (b : Byte) (s : State) : Host.Outcome State Fault Refusal :=
  rmwOp 0xF7 incByte subtractWithCarry (.zpx b) s

/-- R314, row EF (abs). -/
def execIsbAbs (w : Addr) (s : State) : Host.Outcome State Fault Refusal :=
  rmwOp 0xEF incByte subtractWithCarry (.abs w) s

/-- R314, row FF (absx). -/
def execIsbAbsx (w : Addr) (s : State) : Host.Outcome State Fault Refusal :=
  rmwOp 0xFF incByte subtractWithCarry (.absx w) s

/-- R314, row FB (absy). -/
def execIsbAbsy (w : Addr) (s : State) : Host.Outcome State Fault Refusal :=
  rmwOp 0xFB incByte subtractWithCarry (.absy w) s

/-- R314, row E3 (indx). -/
def execIsbIndx (b : Byte) (s : State) : Host.Outcome State Fault Refusal :=
  rmwOp 0xE3 incByte subtractWithCarry (.indx b) s

/-- R314, row F3 (indy). -/
def execIsbIndy (b : Byte) (s : State) : Host.Outcome State Fault Refusal :=
  rmwOp 0xF3 incByte subtractWithCarry (.indy b) s

/-- R315, row 07 (zp). -/
def execSloZp (b : Byte) (s : State) : Host.Outcome State Fault Refusal :=
  rmwOp 0x07 aslByte orA (.zp b) s

/-- R315, row 17 (zpx). -/
def execSloZpx (b : Byte) (s : State) : Host.Outcome State Fault Refusal :=
  rmwOp 0x17 aslByte orA (.zpx b) s

/-- R315, row 0F (abs). -/
def execSloAbs (w : Addr) (s : State) : Host.Outcome State Fault Refusal :=
  rmwOp 0x0F aslByte orA (.abs w) s

/-- R315, row 1F (absx). -/
def execSloAbsx (w : Addr) (s : State) : Host.Outcome State Fault Refusal :=
  rmwOp 0x1F aslByte orA (.absx w) s

/-- R315, row 1B (absy). -/
def execSloAbsy (w : Addr) (s : State) : Host.Outcome State Fault Refusal :=
  rmwOp 0x1B aslByte orA (.absy w) s

/-- R315, row 03 (indx). -/
def execSloIndx (b : Byte) (s : State) : Host.Outcome State Fault Refusal :=
  rmwOp 0x03 aslByte orA (.indx b) s

/-- R315, row 13 (indy). -/
def execSloIndy (b : Byte) (s : State) : Host.Outcome State Fault Refusal :=
  rmwOp 0x13 aslByte orA (.indy b) s

/-- R316, row 27 (zp). -/
def execRlaZp (b : Byte) (s : State) : Host.Outcome State Fault Refusal :=
  rmwOp 0x27 rolByte andA (.zp b) s

/-- R316, row 37 (zpx). -/
def execRlaZpx (b : Byte) (s : State) : Host.Outcome State Fault Refusal :=
  rmwOp 0x37 rolByte andA (.zpx b) s

/-- R316, row 2F (abs). -/
def execRlaAbs (w : Addr) (s : State) : Host.Outcome State Fault Refusal :=
  rmwOp 0x2F rolByte andA (.abs w) s

/-- R316, row 3F (absx). -/
def execRlaAbsx (w : Addr) (s : State) : Host.Outcome State Fault Refusal :=
  rmwOp 0x3F rolByte andA (.absx w) s

/-- R316, row 3B (absy). -/
def execRlaAbsy (w : Addr) (s : State) : Host.Outcome State Fault Refusal :=
  rmwOp 0x3B rolByte andA (.absy w) s

/-- R316, row 23 (indx). -/
def execRlaIndx (b : Byte) (s : State) : Host.Outcome State Fault Refusal :=
  rmwOp 0x23 rolByte andA (.indx b) s

/-- R316, row 33 (indy). -/
def execRlaIndy (b : Byte) (s : State) : Host.Outcome State Fault Refusal :=
  rmwOp 0x33 rolByte andA (.indy b) s

/-- R317, row 47 (zp). -/
def execSreZp (b : Byte) (s : State) : Host.Outcome State Fault Refusal :=
  rmwOp 0x47 lsrByte eorA (.zp b) s

/-- R317, row 57 (zpx). -/
def execSreZpx (b : Byte) (s : State) : Host.Outcome State Fault Refusal :=
  rmwOp 0x57 lsrByte eorA (.zpx b) s

/-- R317, row 4F (abs). -/
def execSreAbs (w : Addr) (s : State) : Host.Outcome State Fault Refusal :=
  rmwOp 0x4F lsrByte eorA (.abs w) s

/-- R317, row 5F (absx). -/
def execSreAbsx (w : Addr) (s : State) : Host.Outcome State Fault Refusal :=
  rmwOp 0x5F lsrByte eorA (.absx w) s

/-- R317, row 5B (absy). -/
def execSreAbsy (w : Addr) (s : State) : Host.Outcome State Fault Refusal :=
  rmwOp 0x5B lsrByte eorA (.absy w) s

/-- R317, row 43 (indx). -/
def execSreIndx (b : Byte) (s : State) : Host.Outcome State Fault Refusal :=
  rmwOp 0x43 lsrByte eorA (.indx b) s

/-- R317, row 53 (indy). -/
def execSreIndy (b : Byte) (s : State) : Host.Outcome State Fault Refusal :=
  rmwOp 0x53 lsrByte eorA (.indy b) s

/-- R318, row 67 (zp). -/
def execRraZp (b : Byte) (s : State) : Host.Outcome State Fault Refusal :=
  rmwOp 0x67 rorByte addWithCarry (.zp b) s

/-- R318, row 77 (zpx). -/
def execRraZpx (b : Byte) (s : State) : Host.Outcome State Fault Refusal :=
  rmwOp 0x77 rorByte addWithCarry (.zpx b) s

/-- R318, row 6F (abs). -/
def execRraAbs (w : Addr) (s : State) : Host.Outcome State Fault Refusal :=
  rmwOp 0x6F rorByte addWithCarry (.abs w) s

/-- R318, row 7F (absx). -/
def execRraAbsx (w : Addr) (s : State) : Host.Outcome State Fault Refusal :=
  rmwOp 0x7F rorByte addWithCarry (.absx w) s

/-- R318, row 7B (absy). -/
def execRraAbsy (w : Addr) (s : State) : Host.Outcome State Fault Refusal :=
  rmwOp 0x7B rorByte addWithCarry (.absy w) s

/-- R318, row 63 (indx). -/
def execRraIndx (b : Byte) (s : State) : Host.Outcome State Fault Refusal :=
  rmwOp 0x63 rorByte addWithCarry (.indx b) s

/-- R318, row 73 (indy). -/
def execRraIndy (b : Byte) (s : State) : Host.Outcome State Fault Refusal :=
  rmwOp 0x73 rorByte addWithCarry (.indy b) s

/-- AND, then `C` a copy of bit 7 (R319). -/
def andCopyingCarry (m : Byte) (s : State) : State := (andA m s).setFlag .c ((s.a &&& m).getLsbD 7)

/-- R319, row 0B (imm). -/
def execAncImm0B (b : Byte) (s : State) : Host.Outcome State Fault Refusal :=
  readOp 0x0B andCopyingCarry (.imm b) s

/-- R319, row 2B (imm). -/
def execAncImm2B (b : Byte) (s : State) : Host.Outcome State Fault Refusal :=
  readOp 0x2B andCopyingCarry (.imm b) s

/-- AND, then LSR of `A` (R320). -/
def andShiftRight (m : Byte) (s : State) : State :=
  let t := s.a &&& m
  ((s.setFlag .c (t.getLsbD 0)).setA (t >>> 1)).setZN (t >>> 1)

/-- R320, row 4B (imm). -/
def execAlrImm (b : Byte) (s : State) : Host.Outcome State Fault Refusal :=
  readOp 0x4B andShiftRight (.imm b) s

/-- AND, then rotate right; `C` is bit 6 and `V` bits 6 xor 5 of the result (R321). -/
def andRotateRight (m : Byte) (s : State) : State :=
  let r := ((s.a &&& m) >>> 1) ||| (if s.flag .c then 0x80 else 0)
  (((s.setA r).setZN r).setFlag .c (r.getLsbD 6)).setFlag .v (r.getLsbD 6 ^^ r.getLsbD 5)

/-- R321, row 6B (imm). -/
def execArrImm (b : Byte) (s : State) : Host.Outcome State Fault Refusal :=
  readOp 0x6B andRotateRight (.imm b) s

/-- `X <- (A & X) - m`, the carry as a compare (R322). -/
def subtractFromAX (m : Byte) (s : State) : State :=
  let t := andAX s
  ((s.setFlag .c (decide (m ≤ t))).setX (t - m)).setZN (t - m)

/-- R322, row CB (imm). -/
def execAxsImm (b : Byte) (s : State) : Host.Outcome State Fault Refusal :=
  readOp 0xCB subtractFromAX (.imm b) s

/-- R323, row EB (imm). -/
def execSbcImmEB (b : Byte) (s : State) : Host.Outcome State Fault Refusal :=
  readOp 0xEB subtractWithCarry (.imm b) s

/-- `m & S` into `A`, `X` and `S` (R324). -/
def loadAndSp (m : Byte) (s : State) : State :=
  let t := m &&& s.sp
  (((s.setA t).setX t).setSp t).setZN t

/-- R324, row BB (absy). -/
def execLasAbsy (w : Addr) (s : State) : Host.Outcome State Fault Refusal :=
  readOp 0xBB loadAndSp (.mem (.absy w)) s

/-- The operand is read and discarded (R325). -/
def discardOperand (_m : Byte) (s : State) : State := s

/-- R325, row 80 (imm). -/
def execNopImm80 (b : Byte) (s : State) : Host.Outcome State Fault Refusal :=
  readOp 0x80 discardOperand (.imm b) s

/-- R325, row 82 (imm). -/
def execNopImm82 (b : Byte) (s : State) : Host.Outcome State Fault Refusal :=
  readOp 0x82 discardOperand (.imm b) s

/-- R325, row 89 (imm). -/
def execNopImm89 (b : Byte) (s : State) : Host.Outcome State Fault Refusal :=
  readOp 0x89 discardOperand (.imm b) s

/-- R325, row C2 (imm). -/
def execNopImmC2 (b : Byte) (s : State) : Host.Outcome State Fault Refusal :=
  readOp 0xC2 discardOperand (.imm b) s

/-- R325, row E2 (imm). -/
def execNopImmE2 (b : Byte) (s : State) : Host.Outcome State Fault Refusal :=
  readOp 0xE2 discardOperand (.imm b) s

/-- R325, row 04 (zp). -/
def execNopZp04 (b : Byte) (s : State) : Host.Outcome State Fault Refusal :=
  readOp 0x04 discardOperand (.mem (.zp b)) s

/-- R325, row 44 (zp). -/
def execNopZp44 (b : Byte) (s : State) : Host.Outcome State Fault Refusal :=
  readOp 0x44 discardOperand (.mem (.zp b)) s

/-- R325, row 64 (zp). -/
def execNopZp64 (b : Byte) (s : State) : Host.Outcome State Fault Refusal :=
  readOp 0x64 discardOperand (.mem (.zp b)) s

/-- R325, row 14 (zpx). -/
def execNopZpx14 (b : Byte) (s : State) : Host.Outcome State Fault Refusal :=
  readOp 0x14 discardOperand (.mem (.zpx b)) s

/-- R325, row 34 (zpx). -/
def execNopZpx34 (b : Byte) (s : State) : Host.Outcome State Fault Refusal :=
  readOp 0x34 discardOperand (.mem (.zpx b)) s

/-- R325, row 54 (zpx). -/
def execNopZpx54 (b : Byte) (s : State) : Host.Outcome State Fault Refusal :=
  readOp 0x54 discardOperand (.mem (.zpx b)) s

/-- R325, row 74 (zpx). -/
def execNopZpx74 (b : Byte) (s : State) : Host.Outcome State Fault Refusal :=
  readOp 0x74 discardOperand (.mem (.zpx b)) s

/-- R325, row D4 (zpx). -/
def execNopZpxD4 (b : Byte) (s : State) : Host.Outcome State Fault Refusal :=
  readOp 0xD4 discardOperand (.mem (.zpx b)) s

/-- R325, row F4 (zpx). -/
def execNopZpxF4 (b : Byte) (s : State) : Host.Outcome State Fault Refusal :=
  readOp 0xF4 discardOperand (.mem (.zpx b)) s

/-- R325, row 0C (abs). -/
def execNopAbs0C (w : Addr) (s : State) : Host.Outcome State Fault Refusal :=
  readOp 0x0C discardOperand (.mem (.abs w)) s

/-- R325, row 1C (absx). -/
def execNopAbsx1C (w : Addr) (s : State) : Host.Outcome State Fault Refusal :=
  readOp 0x1C discardOperand (.mem (.absx w)) s

/-- R325, row 3C (absx). -/
def execNopAbsx3C (w : Addr) (s : State) : Host.Outcome State Fault Refusal :=
  readOp 0x3C discardOperand (.mem (.absx w)) s

/-- R325, row 5C (absx). -/
def execNopAbsx5C (w : Addr) (s : State) : Host.Outcome State Fault Refusal :=
  readOp 0x5C discardOperand (.mem (.absx w)) s

/-- R325, row 7C (absx). -/
def execNopAbsx7C (w : Addr) (s : State) : Host.Outcome State Fault Refusal :=
  readOp 0x7C discardOperand (.mem (.absx w)) s

/-- R325, row DC (absx). -/
def execNopAbsxDC (w : Addr) (s : State) : Host.Outcome State Fault Refusal :=
  readOp 0xDC discardOperand (.mem (.absx w)) s

/-- R325, row FC (absx). -/
def execNopAbsxFC (w : Addr) (s : State) : Host.Outcome State Fault Refusal :=
  readOp 0xFC discardOperand (.mem (.absx w)) s

/-- R135, the 25 rows named ILL. -/
def execIll (op : Byte) (s : State) : Host.Outcome State Fault Refusal :=
  illegalOpcode op s

end Sys2Proof.Machine
end

