-- ==== Sys2Proof/Machine/Dispatch.lean ====
section
/-!
DEFINITION. The meaning of an instruction whose opcode byte is at `PC` and whose bytes have been fetched (R450 step 3 to 5).
-/

namespace Sys2Proof.Machine

def exec (i : Instr) (s : State) : Host.Outcome State Fault Refusal :=
  match i with
  -- Loads, stores, transfers (R160 to R171).
  | .ldaImm b => Sys2Proof.Machine.execLdaImm b s
  | .ldaZp b => Sys2Proof.Machine.execLdaZp b s
  | .ldaZpx b => Sys2Proof.Machine.execLdaZpx b s
  | .ldaAbs w => Sys2Proof.Machine.execLdaAbs w s
  | .ldaAbsx w => Sys2Proof.Machine.execLdaAbsx w s
  | .ldaAbsy w => Sys2Proof.Machine.execLdaAbsy w s
  | .ldaIndx b => Sys2Proof.Machine.execLdaIndx b s
  | .ldaIndy b => Sys2Proof.Machine.execLdaIndy b s
  | .ldxImm b => Sys2Proof.Machine.execLdxImm b s
  | .ldxZp b => Sys2Proof.Machine.execLdxZp b s
  | .ldxZpy b => Sys2Proof.Machine.execLdxZpy b s
  | .ldxAbs w => Sys2Proof.Machine.execLdxAbs w s
  | .ldxAbsy w => Sys2Proof.Machine.execLdxAbsy w s
  | .ldyImm b => Sys2Proof.Machine.execLdyImm b s
  | .ldyZp b => Sys2Proof.Machine.execLdyZp b s
  | .ldyZpx b => Sys2Proof.Machine.execLdyZpx b s
  | .ldyAbs w => Sys2Proof.Machine.execLdyAbs w s
  | .ldyAbsx w => Sys2Proof.Machine.execLdyAbsx w s
  | .staZp b => Sys2Proof.Machine.execStaZp b s
  | .staZpx b => Sys2Proof.Machine.execStaZpx b s
  | .staAbs w => Sys2Proof.Machine.execStaAbs w s
  | .staAbsx w => Sys2Proof.Machine.execStaAbsx w s
  | .staAbsy w => Sys2Proof.Machine.execStaAbsy w s
  | .staIndx b => Sys2Proof.Machine.execStaIndx b s
  | .staIndy b => Sys2Proof.Machine.execStaIndy b s
  | .stxZp b => Sys2Proof.Machine.execStxZp b s
  | .stxZpy b => Sys2Proof.Machine.execStxZpy b s
  | .stxAbs w => Sys2Proof.Machine.execStxAbs w s
  | .styZp b => Sys2Proof.Machine.execStyZp b s
  | .styZpx b => Sys2Proof.Machine.execStyZpx b s
  | .styAbs w => Sys2Proof.Machine.execStyAbs w s
  | .tax => Sys2Proof.Machine.execTax s
  | .tay => Sys2Proof.Machine.execTay s
  | .txa => Sys2Proof.Machine.execTxa s
  | .tya => Sys2Proof.Machine.execTya s
  | .txs => Sys2Proof.Machine.execTxs s
  | .tsx => Sys2Proof.Machine.execTsx s
  -- Arithmetic, logic, compare, increment, decrement (R191 to R206).
  | .adcImm b => Sys2Proof.Machine.execAdcImm b s
  | .adcZp b => Sys2Proof.Machine.execAdcZp b s
  | .adcZpx b => Sys2Proof.Machine.execAdcZpx b s
  | .adcAbs w => Sys2Proof.Machine.execAdcAbs w s
  | .adcAbsx w => Sys2Proof.Machine.execAdcAbsx w s
  | .adcAbsy w => Sys2Proof.Machine.execAdcAbsy w s
  | .adcIndx b => Sys2Proof.Machine.execAdcIndx b s
  | .adcIndy b => Sys2Proof.Machine.execAdcIndy b s
  | .sbcImm b => Sys2Proof.Machine.execSbcImm b s
  | .sbcZp b => Sys2Proof.Machine.execSbcZp b s
  | .sbcZpx b => Sys2Proof.Machine.execSbcZpx b s
  | .sbcAbs w => Sys2Proof.Machine.execSbcAbs w s
  | .sbcAbsx w => Sys2Proof.Machine.execSbcAbsx w s
  | .sbcAbsy w => Sys2Proof.Machine.execSbcAbsy w s
  | .sbcIndx b => Sys2Proof.Machine.execSbcIndx b s
  | .sbcIndy b => Sys2Proof.Machine.execSbcIndy b s
  | .andImm b => Sys2Proof.Machine.execAndImm b s
  | .andZp b => Sys2Proof.Machine.execAndZp b s
  | .andZpx b => Sys2Proof.Machine.execAndZpx b s
  | .andAbs w => Sys2Proof.Machine.execAndAbs w s
  | .andAbsx w => Sys2Proof.Machine.execAndAbsx w s
  | .andAbsy w => Sys2Proof.Machine.execAndAbsy w s
  | .andIndx b => Sys2Proof.Machine.execAndIndx b s
  | .andIndy b => Sys2Proof.Machine.execAndIndy b s
  | .oraImm b => Sys2Proof.Machine.execOraImm b s
  | .oraZp b => Sys2Proof.Machine.execOraZp b s
  | .oraZpx b => Sys2Proof.Machine.execOraZpx b s
  | .oraAbs w => Sys2Proof.Machine.execOraAbs w s
  | .oraAbsx w => Sys2Proof.Machine.execOraAbsx w s
  | .oraAbsy w => Sys2Proof.Machine.execOraAbsy w s
  | .oraIndx b => Sys2Proof.Machine.execOraIndx b s
  | .oraIndy b => Sys2Proof.Machine.execOraIndy b s
  | .eorImm b => Sys2Proof.Machine.execEorImm b s
  | .eorZp b => Sys2Proof.Machine.execEorZp b s
  | .eorZpx b => Sys2Proof.Machine.execEorZpx b s
  | .eorAbs w => Sys2Proof.Machine.execEorAbs w s
  | .eorAbsx w => Sys2Proof.Machine.execEorAbsx w s
  | .eorAbsy w => Sys2Proof.Machine.execEorAbsy w s
  | .eorIndx b => Sys2Proof.Machine.execEorIndx b s
  | .eorIndy b => Sys2Proof.Machine.execEorIndy b s
  | .bitZp b => Sys2Proof.Machine.execBitZp b s
  | .bitAbs w => Sys2Proof.Machine.execBitAbs w s
  | .cmpImm b => Sys2Proof.Machine.execCmpImm b s
  | .cmpZp b => Sys2Proof.Machine.execCmpZp b s
  | .cmpZpx b => Sys2Proof.Machine.execCmpZpx b s
  | .cmpAbs w => Sys2Proof.Machine.execCmpAbs w s
  | .cmpAbsx w => Sys2Proof.Machine.execCmpAbsx w s
  | .cmpAbsy w => Sys2Proof.Machine.execCmpAbsy w s
  | .cmpIndx b => Sys2Proof.Machine.execCmpIndx b s
  | .cmpIndy b => Sys2Proof.Machine.execCmpIndy b s
  | .cpxImm b => Sys2Proof.Machine.execCpxImm b s
  | .cpxZp b => Sys2Proof.Machine.execCpxZp b s
  | .cpxAbs w => Sys2Proof.Machine.execCpxAbs w s
  | .cpyImm b => Sys2Proof.Machine.execCpyImm b s
  | .cpyZp b => Sys2Proof.Machine.execCpyZp b s
  | .cpyAbs w => Sys2Proof.Machine.execCpyAbs w s
  | .incZp b => Sys2Proof.Machine.execIncZp b s
  | .incZpx b => Sys2Proof.Machine.execIncZpx b s
  | .incAbs w => Sys2Proof.Machine.execIncAbs w s
  | .incAbsx w => Sys2Proof.Machine.execIncAbsx w s
  | .decZp b => Sys2Proof.Machine.execDecZp b s
  | .decZpx b => Sys2Proof.Machine.execDecZpx b s
  | .decAbs w => Sys2Proof.Machine.execDecAbs w s
  | .decAbsx w => Sys2Proof.Machine.execDecAbsx w s
  | .inx => Sys2Proof.Machine.execInx s
  | .iny => Sys2Proof.Machine.execIny s
  | .dex => Sys2Proof.Machine.execDex s
  | .dey => Sys2Proof.Machine.execDey s
  -- Shifts and rotates (R231 to R234).
  | .aslAcc => Sys2Proof.Machine.execAslAcc s
  | .aslZp b => Sys2Proof.Machine.execAslZp b s
  | .aslZpx b => Sys2Proof.Machine.execAslZpx b s
  | .aslAbs w => Sys2Proof.Machine.execAslAbs w s
  | .aslAbsx w => Sys2Proof.Machine.execAslAbsx w s
  | .lsrAcc => Sys2Proof.Machine.execLsrAcc s
  | .lsrZp b => Sys2Proof.Machine.execLsrZp b s
  | .lsrZpx b => Sys2Proof.Machine.execLsrZpx b s
  | .lsrAbs w => Sys2Proof.Machine.execLsrAbs w s
  | .lsrAbsx w => Sys2Proof.Machine.execLsrAbsx w s
  | .rolAcc => Sys2Proof.Machine.execRolAcc s
  | .rolZp b => Sys2Proof.Machine.execRolZp b s
  | .rolZpx b => Sys2Proof.Machine.execRolZpx b s
  | .rolAbs w => Sys2Proof.Machine.execRolAbs w s
  | .rolAbsx w => Sys2Proof.Machine.execRolAbsx w s
  | .rorAcc => Sys2Proof.Machine.execRorAcc s
  | .rorZp b => Sys2Proof.Machine.execRorZp b s
  | .rorZpx b => Sys2Proof.Machine.execRorZpx b s
  | .rorAbs w => Sys2Proof.Machine.execRorAbs w s
  | .rorAbsx w => Sys2Proof.Machine.execRorAbsx w s
  -- Control transfer (R252 to R265).
  | .bpl b => Sys2Proof.Machine.execBpl b s
  | .bmi b => Sys2Proof.Machine.execBmi b s
  | .bvc b => Sys2Proof.Machine.execBvc b s
  | .bvs b => Sys2Proof.Machine.execBvs b s
  | .bcc b => Sys2Proof.Machine.execBcc b s
  | .bcs b => Sys2Proof.Machine.execBcs b s
  | .bne b => Sys2Proof.Machine.execBne b s
  | .beq b => Sys2Proof.Machine.execBeq b s
  | .jmpAbs w => Sys2Proof.Machine.execJmpAbs w s
  | .jmpInd w => Sys2Proof.Machine.execJmpInd w s
  | .jsrAbs w => Sys2Proof.Machine.execJsrAbs w s
  | .rts => Sys2Proof.Machine.execRts s
  | .rti => Sys2Proof.Machine.execRti s
  | .brk => Sys2Proof.Machine.execBrk s
  -- Stack, flags, NOP (R281 to R292).
  | .pha => Sys2Proof.Machine.execPha s
  | .php => Sys2Proof.Machine.execPhp s
  | .pla => Sys2Proof.Machine.execPla s
  | .plp => Sys2Proof.Machine.execPlp s
  | .clc => Sys2Proof.Machine.execClc s
  | .sec => Sys2Proof.Machine.execSec s
  | .cli => Sys2Proof.Machine.execCli s
  | .sei => Sys2Proof.Machine.execSei s
  | .cld => Sys2Proof.Machine.execCld s
  | .sed => Sys2Proof.Machine.execSed s
  | .clv => Sys2Proof.Machine.execClv s
  | .nop => Sys2Proof.Machine.execNop s
  -- Undocumented (R311 to R325).
  | .laxZp b => Sys2Proof.Machine.execLaxZp b s
  | .laxZpy b => Sys2Proof.Machine.execLaxZpy b s
  | .laxAbs w => Sys2Proof.Machine.execLaxAbs w s
  | .laxAbsy w => Sys2Proof.Machine.execLaxAbsy w s
  | .laxIndx b => Sys2Proof.Machine.execLaxIndx b s
  | .laxIndy b => Sys2Proof.Machine.execLaxIndy b s
  | .saxZp b => Sys2Proof.Machine.execSaxZp b s
  | .saxZpy b => Sys2Proof.Machine.execSaxZpy b s
  | .saxAbs w => Sys2Proof.Machine.execSaxAbs w s
  | .saxIndx b => Sys2Proof.Machine.execSaxIndx b s
  | .dcpZp b => Sys2Proof.Machine.execDcpZp b s
  | .dcpZpx b => Sys2Proof.Machine.execDcpZpx b s
  | .dcpAbs w => Sys2Proof.Machine.execDcpAbs w s
  | .dcpAbsx w => Sys2Proof.Machine.execDcpAbsx w s
  | .dcpAbsy w => Sys2Proof.Machine.execDcpAbsy w s
  | .dcpIndx b => Sys2Proof.Machine.execDcpIndx b s
  | .dcpIndy b => Sys2Proof.Machine.execDcpIndy b s
  | .isbZp b => Sys2Proof.Machine.execIsbZp b s
  | .isbZpx b => Sys2Proof.Machine.execIsbZpx b s
  | .isbAbs w => Sys2Proof.Machine.execIsbAbs w s
  | .isbAbsx w => Sys2Proof.Machine.execIsbAbsx w s
  | .isbAbsy w => Sys2Proof.Machine.execIsbAbsy w s
  | .isbIndx b => Sys2Proof.Machine.execIsbIndx b s
  | .isbIndy b => Sys2Proof.Machine.execIsbIndy b s
  | .sloZp b => Sys2Proof.Machine.execSloZp b s
  | .sloZpx b => Sys2Proof.Machine.execSloZpx b s
  | .sloAbs w => Sys2Proof.Machine.execSloAbs w s
  | .sloAbsx w => Sys2Proof.Machine.execSloAbsx w s
  | .sloAbsy w => Sys2Proof.Machine.execSloAbsy w s
  | .sloIndx b => Sys2Proof.Machine.execSloIndx b s
  | .sloIndy b => Sys2Proof.Machine.execSloIndy b s
  | .rlaZp b => Sys2Proof.Machine.execRlaZp b s
  | .rlaZpx b => Sys2Proof.Machine.execRlaZpx b s
  | .rlaAbs w => Sys2Proof.Machine.execRlaAbs w s
  | .rlaAbsx w => Sys2Proof.Machine.execRlaAbsx w s
  | .rlaAbsy w => Sys2Proof.Machine.execRlaAbsy w s
  | .rlaIndx b => Sys2Proof.Machine.execRlaIndx b s
  | .rlaIndy b => Sys2Proof.Machine.execRlaIndy b s
  | .sreZp b => Sys2Proof.Machine.execSreZp b s
  | .sreZpx b => Sys2Proof.Machine.execSreZpx b s
  | .sreAbs w => Sys2Proof.Machine.execSreAbs w s
  | .sreAbsx w => Sys2Proof.Machine.execSreAbsx w s
  | .sreAbsy w => Sys2Proof.Machine.execSreAbsy w s
  | .sreIndx b => Sys2Proof.Machine.execSreIndx b s
  | .sreIndy b => Sys2Proof.Machine.execSreIndy b s
  | .rraZp b => Sys2Proof.Machine.execRraZp b s
  | .rraZpx b => Sys2Proof.Machine.execRraZpx b s
  | .rraAbs w => Sys2Proof.Machine.execRraAbs w s
  | .rraAbsx w => Sys2Proof.Machine.execRraAbsx w s
  | .rraAbsy w => Sys2Proof.Machine.execRraAbsy w s
  | .rraIndx b => Sys2Proof.Machine.execRraIndx b s
  | .rraIndy b => Sys2Proof.Machine.execRraIndy b s
  | .ancImm0B b => Sys2Proof.Machine.execAncImm0B b s
  | .ancImm2B b => Sys2Proof.Machine.execAncImm2B b s
  | .alrImm b => Sys2Proof.Machine.execAlrImm b s
  | .arrImm b => Sys2Proof.Machine.execArrImm b s
  | .axsImm b => Sys2Proof.Machine.execAxsImm b s
  | .sbcImmEB b => Sys2Proof.Machine.execSbcImmEB b s
  | .lasAbsy w => Sys2Proof.Machine.execLasAbsy w s
  | .nopImm80 b => Sys2Proof.Machine.execNopImm80 b s
  | .nopImm82 b => Sys2Proof.Machine.execNopImm82 b s
  | .nopImm89 b => Sys2Proof.Machine.execNopImm89 b s
  | .nopImmC2 b => Sys2Proof.Machine.execNopImmC2 b s
  | .nopImmE2 b => Sys2Proof.Machine.execNopImmE2 b s
  | .nopZp04 b => Sys2Proof.Machine.execNopZp04 b s
  | .nopZp44 b => Sys2Proof.Machine.execNopZp44 b s
  | .nopZp64 b => Sys2Proof.Machine.execNopZp64 b s
  | .nopZpx14 b => Sys2Proof.Machine.execNopZpx14 b s
  | .nopZpx34 b => Sys2Proof.Machine.execNopZpx34 b s
  | .nopZpx54 b => Sys2Proof.Machine.execNopZpx54 b s
  | .nopZpx74 b => Sys2Proof.Machine.execNopZpx74 b s
  | .nopZpxD4 b => Sys2Proof.Machine.execNopZpxD4 b s
  | .nopZpxF4 b => Sys2Proof.Machine.execNopZpxF4 b s
  | .nopAbs0C w => Sys2Proof.Machine.execNopAbs0C w s
  | .nopAbsx1C w => Sys2Proof.Machine.execNopAbsx1C w s
  | .nopAbsx3C w => Sys2Proof.Machine.execNopAbsx3C w s
  | .nopAbsx5C w => Sys2Proof.Machine.execNopAbsx5C w s
  | .nopAbsx7C w => Sys2Proof.Machine.execNopAbsx7C w s
  | .nopAbsxDC w => Sys2Proof.Machine.execNopAbsxDC w s
  | .nopAbsxFC w => Sys2Proof.Machine.execNopAbsxFC w s
  -- The 25 bytes with no table entry (R135): one constructor, carrying the byte.
  | .ill op => Sys2Proof.Machine.execIll op s

end Sys2Proof.Machine
end

