-- ==== Sys2Proof/Machine/Fetch.lean ====
section
/-!
DEFINITION. Instruction fetch (30_encoding.md R120) and where the next instruction is fetched from.
-/

namespace Sys2Proof.Machine

/-- The operand bytes of the instruction at `pc0` with opcode byte `op`, in address order; a byte the length does not
ask for is not read (R105, R120, D10). -/
def fetchOperands (pc0 : Addr) (op : Byte) (s : State) : Access (Byte × Byte) :=
  match lengthOf op with
  | 2 => (memRead (pc0 + 1) s).andThen fun b1 s => .ok (b1, 0) s
  | 3 =>
    (memRead (pc0 + 1) s).andThen fun b1 s =>
    (memRead (pc0 + 2) s).andThen fun b2 s =>
    .ok (b1, b2) s
  | _ => .ok (0, 0) s

/-- Fetch of the instruction at `PC` (R120): ordinary bus reads with their side effects (R85). `PC` stays at the
opcode byte. -/
def fetch (s : State) : Access Instr :=
  (memRead s.pc s).andThen fun op s =>
  (fetchOperands s.pc op s).andThen fun bs s =>
  .ok (instrOf op bs.1 bs.2) s

/-- The address the next step fetches from: the NMI vector's word when a request is pending (R456, R457), else `PC`. -/
def fetchAddr (s : State) : Addr :=
  if s.ppu.pendingNmi then hilo (prgByte s.cart 0xFFFB) (prgByte s.cart 0xFFFA) else s.pc

/-- The state with byte `b` in the memory at `addr`, `RAM` or `PRG`, as a loader outside the machine puts it there (log
18). The device range has no memory to put it in. -/
def placeByte (addr : Addr) (b : Byte) (s : State) : State :=
  if addr.toNat < 0x2000 then s.setRam (s.ram.write (ramIndex addr) b)
  else if addr.toNat < 0x8000 then s
  else { s with cart := { s.cart with prg := s.cart.prg.write (prgIndex s.cart addr) b } }

/-- The state with a list of bytes in memory from `addr` on. -/
def placeBytes : Addr → List Byte → State → State
  | _, [], s => s
  | addr, b :: bs, s => placeBytes (addr + 1) bs (placeByte addr b s)

end Sys2Proof.Machine
end

