-- ==== Sys2Proof/Machine/Step.lean ====
section
/-!
DEFINITION. One `Step` (60_exceptions.md R450, R451).
-/

namespace Sys2Proof.Machine

/-- `Step`: on a running machine the NMI poll, one fetch and one instruction. On a machine that has halted or faulted
the spec gives no step (R440, R452). The output event is that of this step alone (R451). -/
def step (s : State) : Host.Outcome State Fault Refusal :=
  match s.run with
  | .halted => .fault .stepWhileHalted
  | .faulted k => .fault (.stepWhileFaulted k)
  | .running =>
    match (pollNmi (s.setFrameReady false)).andThen fun _ s => fetch s with
    | .ok i s => exec i s
    | .fatal k s => .next (s.raise k)

/-- The state with the instruction whose bits are `w` (of which the table gives `nbits`) where `step` fetches its next
instruction (log 18). -/
def State.withFetchWord (s : State) (nbits w : Nat) : State := placeBytes (fetchAddr s) (wordBytes nbits w) s

end Sys2Proof.Machine
end

