-- ==== Sys2Proof/Machine/Cartridge.lean ====
section
/-!
DEFINITION. The cartridge image, iNES (70_reset_and_hazards.md R485 to R487, 00_scope.md R7).
-/

namespace Sys2Proof.Machine

/-- Why an image is refused (R487). -/
inductive LoadError
  /-- The image is shorter than its header or than the sizes the header declares. -/
  | tooShort
  /-- Bytes 0 to 3 are not `NES` and 0x1A. -/
  | badMagic
  /-- The iNES version bits are not 0. -/
  | unsupportedVersion
  /-- The number of PRG-ROM pages is not 1 or 2 (D28). -/
  | badPrgPages (n : Nat)
  /-- The number of CHR-ROM pages is not 1 (D28). -/
  | badChrPages (n : Nat)
  deriving DecidableEq, Repr

/-- Byte `i` of an image. -/
def imageByte (image : List Byte) (i : Nat) : Byte := image.getD i 0

/-- The magic of R485. -/
def inesMagic : List Byte := [0x4E, 0x45, 0x53, 0x1A]

/-- `MIRRORING` from byte 6 (R485). -/
def inesMirroring (b6 : Byte) : Mirroring :=
  if b6.getLsbD 3 then .fourScreen else if b6.getLsbD 0 then .vertical else .horizontal

/-- `MAPPER` from bytes 6 and 7 (R485). -/
def inesMapper (b6 b7 : Byte) : Byte := (b7 &&& 0xF0) ||| (b6 >>> 4)

/-- The iNES version of byte 7, bits 3:2 (R485). -/
def inesVersion (b7 : Byte) : Byte := (b7 >>> 2) &&& 3

/-- Where `PRG` begins in an image: after the header and the trainer, if there is one (R486). -/
def inesPrgStart (b6 : Byte) : Nat := 16 + if b6.getLsbD 2 then 512 else 0

/-- `PRG`'s size from the page count (R7, D28). -/
def inesPrgSize (pages : Nat) : Option PrgSize :=
  if pages = 1 then some .k16 else if pages = 2 then some .k32 else none

/-- `n` bytes of an image from offset `i`. -/
def imageSlice (image : List Byte) (i n : Nat) : List Byte := (image.drop i).take n

/-- The cartridge an iNES image holds, or why it is refused (R485 to R487). Where several errors hold, the first of
this order is answered (DESIGN CHOICE, log 15). -/
def parseInes (image : List Byte) : Except LoadError Cartridge :=
  if image.length < 16 then .error .tooShort
  else if image.take 4 ≠ inesMagic then .error .badMagic
  else if inesVersion (imageByte image 7) ≠ 0 then .error .unsupportedVersion
  else
    match inesPrgSize (imageByte image 4).toNat with
    | none => .error (.badPrgPages (imageByte image 4).toNat)
    | some size =>
      if (imageByte image 5).toNat ≠ 1 then .error (.badChrPages (imageByte image 5).toNat)
      else if image.length < inesPrgStart (imageByte image 6) + size.bytes + chrBytes then .error .tooShort
      else
        .ok
          { prg := Memory.ofBytes (imageSlice image (inesPrgStart (imageByte image 6)) size.bytes)
            prgSize := size
            chr := Memory.ofBytes (imageSlice image (inesPrgStart (imageByte image 6) + size.bytes) chrBytes)
            mirroring := inesMirroring (imageByte image 6)
            mapper := inesMapper (imageByte image 6) (imageByte image 7) }

end Sys2Proof.Machine
end

