-- ==== Sys2Proof/Machine/HostMoves.lean ====
section
/-!
DEFINITION. What the host does to the machine between steps (00_scope.md R15): power-on (70_reset_and_hazards.md R480),
`reset()` (R483), and the joypad's buttons (60_exceptions.md R470).
-/

namespace Sys2Proof.Machine

/-- The launch state (R10, R480): what the spec leaves open at power-on, as an argument. The six CPU registers hold no
defined value until `reset()` (R481; log 9). -/
structure Launch where
  a       : Byte
  x       : Byte
  y       : Byte
  sp      : Byte
  p       : Byte
  pc      : Addr
  ram     : Memory
  vram    : Memory
  palette : Memory
  oam     : Memory
  deriving DecidableEq, Repr

/-- Power-on (R48, R480). -/
def powerOn (cfg : Params) (cart : Cartridge) (l : Launch) : State :=
  { a := l.a, x := l.x, y := l.y, sp := l.sp, p := l.p, pc := l.pc, ram := l.ram
    ppu := { Ppu.powerOn with vram := l.vram, palette := l.palette, oam := l.oam }
    joy := Joypad.powerOn, cycles := 0, run := .running, frameReady := false, cart := cart, cfg := cfg }

/-- What `reset()` does to the run state: `Faulted` stays (R45, R483, D38). -/
def Run.afterReset : Run → Run
  | .halted => .running
  | r => r

/-- `reset()` (R483). -/
def resetAccess (s : State) : Access Unit :=
  (memRead2 0xFFFC (((((s.setA 0).setX 0).setY 0).setSp s.cfg.spReset).setP 0x24)).andThen fun w s =>
  .ok () ((s.setPc w).setRun s.run.afterReset)

/-- The state after `reset()`. The vector reads are reads of ROM and never fatal (R483); the second line is there
because every bus read has it. -/
def resetCpu (s : State) : State :=
  match resetAccess s with
  | .ok _ s => s
  | .fatal k s => s.setRun (.faulted k)

/-- The bring-up of R482: parse, power-on, reset. -/
def bringUp (cfg : Params) (image : List Byte) (l : Launch) : Except LoadError State :=
  match parseInes image with
  | .ok cart => .ok (resetCpu (powerOn cfg cart l))
  | .error e => .error e

/-- The host sets the joypad's buttons (R470). -/
def pressButtons (b : Byte) (s : State) : State := s.setJoy { s.joy with buttons := b }

end Sys2Proof.Machine
end

