-- ==== Sys2Proof/Machine/Render.lean ====
section
/-!
DEFINITION. The rendering datapath (49_renderer.md R410 to R425). `picture` is R410's painting, in its order; `pixelAt`
gives one pixel at once.
-/

namespace Sys2Proof.Machine

/-- Width and height of the picture (R410). -/
def pictureWidth : Nat := 256

/-- See `pictureWidth`. -/
def pictureHeight : Nat := 240

/-- `Colour(b) = b & 0x3F` (R411). -/
def colourOf (b : Byte) : Colour := b.setWidth 6

/-- The colour of a palette entry. -/
def paletteColour (u : Ppu) (i : Nat) : Colour := colourOf (u.palette.read i)

/-! ### Background -/

/-- The physical bank of the main nametable, by `ctrl[1:0]` (R413). `FourScreen` selects as `Horizontal` does: that is D27,
the ruling R413 names for its `FourScreen` row, whose table entry differs for 2 and 3 (DEDUCED, unsafe, log 26). -/
def mainBank (mi : Mirroring) (u : Ppu) : Nat :=
  match mi with
  | .vertical => (u.ctrl &&& 3).toNat % 2
  | .horizontal | .fourScreen => (u.ctrl &&& 3).toNat / 2

/-- The physical bank of the second nametable, the other one (R413). -/
def secondBank (mi : Mirroring) (u : Ppu) : Nat := 1 - mainBank mi u

/-- Byte `i` of a nametable bank (R413). -/
def bankByte (u : Ppu) (bank i : Nat) : Byte := u.vram.read (bank * 0x400 + i)

/-- `Pattern(base, t, i, j)`, 0 to 3 (R417). -/
def pattern (cart : Cartridge) (base : Nat) (t : Byte) (i j : Nat) : Nat :=
  2 * ((cart.chr.read (base + 16 * t.toNat + 8 + j)).getLsbD (7 - i)).toNat
    + ((cart.chr.read (base + 16 * t.toNat + j)).getLsbD (7 - i)).toNat

/-- The background's pattern table (R416). -/
def bgBase (u : Ppu) : Nat := if u.ctrl.getLsbD 4 then 0x1000 else 0x0000

/-- The tile number at tile column `c`, row `r` (R415). -/
def tileAt (u : Ppu) (bank c r : Nat) : Byte := bankByte u bank (r * 32 + c)

/-- The palette group of tile `(c, r)` (R418). -/
def attributeGroup (u : Ppu) (bank c r : Nat) : Nat :=
  ((bankByte u bank (0x3C0 + r / 4 * 8 + c / 4) >>> (2 * (c % 4 / 2) + 4 * (r % 4 / 2))) &&& 3).toNat

/-- `BgPixel(T, x, y)` at plane pixel `(x, y)` of a bank (R415, R419). -/
def bgPixel (cart : Cartridge) (u : Ppu) (bank x y : Nat) : Colour :=
  let p := pattern cart (bgBase u) (tileAt u bank (x / 8) (y / 8)) (x % 8) (y % 8)
  if p = 0 then paletteColour u 0 else paletteColour u (4 * attributeGroup u bank (x / 8) (y / 8) + p)

/-! ### Sprites -/

/-- A sprite's four bytes (R42, R421). -/
structure Sprite where
  y    : Nat
  tile : Byte
  attr : Byte
  x    : Nat
  deriving DecidableEq, Repr

/-- Sprite `n` (R421). -/
def spriteOf (u : Ppu) (n : Nat) : Sprite :=
  { y := (u.oam.read (4 * n)).toNat, tile := u.oam.read (4 * n + 1), attr := u.oam.read (4 * n + 2)
    x := (u.oam.read (4 * n + 3)).toNat }

/-- The sprites' pattern table (R422). -/
def spriteBase (u : Ppu) : Nat := if u.ctrl.getLsbD 3 then 0x1000 else 0x0000

/-- The pattern value of a sprite's tile pixel `(i, j)`. -/
def spritePattern (cart : Cartridge) (u : Ppu) (sp : Sprite) (i j : Nat) : Nat :=
  pattern cart (spriteBase u) sp.tile i j

/-- `7 - i` where a flip bit is set, else `i` (R423). -/
def flipped (flip : Bool) (i : Nat) : Nat := if flip then 7 - i else i

/-- The colour of a sprite's opaque pixel with pattern value `p` (R423). -/
def spriteColour (u : Ppu) (sp : Sprite) (p : Nat) : Colour :=
  paletteColour u (0x10 + 4 * (sp.attr &&& 3).toNat + p)

/-! ### Painting (R410) -/

/-- One paint: picture coordinates, which may lie outside the array, and a colour. -/
structure Paint where
  x : Int
  y : Int
  c : Colour
  deriving DecidableEq, Repr

/-- The paints of the background's main region (R414). -/
def mainPaints (cart : Cartridge) (u : Ppu) : List Paint :=
  let sx := u.scrollX.toNat
  let sy := u.scrollY.toNat
  (List.range' sy (240 - sy)).flatMap fun (v : Nat) => (List.range' sx (256 - sx)).map fun (w : Nat) =>
    { x := (w : Int) - sx, y := (v : Int) - sy, c := bgPixel cart u (mainBank cart.mirroring u) w v }

/-- The paints of the background's second region (R414). -/
def secondPaints (cart : Cartridge) (u : Ppu) : List Paint :=
  let sx := u.scrollX.toNat
  let sy := u.scrollY.toNat
  let bank := secondBank cart.mirroring u
  if sx > 0 then
    (List.range 240).flatMap fun (v : Nat) => (List.range sx).map fun (w : Nat) =>
      { x := (w : Int) + 256 - sx, y := v, c := bgPixel cart u bank w v }
  else if sy > 0 then
    (List.range (min sy 240)).flatMap fun (v : Nat) => (List.range 256).map fun (w : Nat) =>
      { x := w, y := (v : Int) + 240 - sy, c := bgPixel cart u bank w v }
  else []

/-- The paints of sprite `n` (R423). -/
def spritePaints (cart : Cartridge) (u : Ppu) (n : Nat) : List Paint :=
  let sp := spriteOf u n
  (List.range 8).flatMap fun j => (List.range 8).filterMap fun i =>
    let p := spritePattern cart u sp i j
    if p = 0 then none
    else
      some
        { x := ((sp.x + flipped (sp.attr.getLsbD 6) i : Nat) : Int)
          y := ((sp.y + flipped (sp.attr.getLsbD 7) j : Nat) : Int)
          c := spriteColour u sp p }

/-- Every paint in order: main region, second region, sprites 63 down to 0 (R410, R420). -/
def allPaints (cart : Cartridge) (u : Ppu) : List Paint :=
  mainPaints cart u ++ secondPaints cart u ++ (List.range 64).reverse.flatMap (spritePaints cart u)

/-- The colour of pixel `(x, y)` of an array that starts at `start` everywhere, after a list of paints, a later paint
replacing an earlier one (R410). A paint outside the array names no pixel and is dropped. -/
def painted (paints : List Paint) (start : Colour) (x y : Nat) : Colour :=
  paints.foldl (fun c q => if q.x = (x : Int) ∧ q.y = (y : Int) then q.c else c) start

/-- `Picture[y][x]` (R410), for `x` below 256 and `y` below 240. -/
def picture (cart : Cartridge) (u : Ppu) (y x : Nat) : Colour :=
  painted (allPaints cart u) (paletteColour u 0) x y

/-- The whole picture: 240 rows of 256 colour indices (R410). -/
def pictureRows (cart : Cartridge) (u : Ppu) : List (List Colour) :=
  (List.range pictureHeight).map fun y => (List.range pictureWidth).map fun x => picture cart u y x

/-- A pixel of the frame buffer, `SYSTEM_PALETTE(Picture[y][x])` (R9, R410). -/
def framePixel (cart : Cartridge) (u : Ppu) (y x : Nat) : Byte × Byte × Byte :=
  Config.systemPalette (picture cart u y x)

/-! ### One pixel at once -/

/-- The background at a pixel: the second region where it reaches, else the main region, else nothing (R414). -/
def backgroundAt (cart : Cartridge) (u : Ppu) (x y : Nat) : Option Colour :=
  let sx := u.scrollX.toNat
  let sy := u.scrollY.toNat
  if 256 ≤ x + sx then some (bgPixel cart u (secondBank cart.mirroring u) (x + sx - 256) y)
  else if y + sy < 240 then some (bgPixel cart u (mainBank cart.mirroring u) (x + sx) (y + sy))
  else if sx = 0 ∧ y + sy - 240 < min sy 240 then
    some (bgPixel cart u (secondBank cart.mirroring u) x (y + sy - 240))
  else none

/-- What sprite `n` shows at a pixel: nothing where it does not reach or is transparent (R423). -/
def spriteAt (cart : Cartridge) (u : Ppu) (n x y : Nat) : Option Colour :=
  let sp := spriteOf u n
  if sp.x ≤ x ∧ x < sp.x + 8 ∧ sp.y ≤ y ∧ y < sp.y + 8 then
    let p := spritePattern cart u sp (flipped (sp.attr.getLsbD 6) (x - sp.x)) (flipped (sp.attr.getLsbD 7) (y - sp.y))
    if p = 0 then none else some (spriteColour u sp p)
  else none

/-- A pixel of the picture: the lowest sprite that shows there, else the background, else palette entry 0. -/
def pixelAt (cart : Cartridge) (u : Ppu) (y x : Nat) : Colour :=
  match (List.range 64).findSome? fun n => spriteAt cart u n x y with
  | some c => c
  | none => (backgroundAt cart u x y).getD (paletteColour u 0)

end Sys2Proof.Machine
end

