-- ==== Sys2Proof/Safety.lean ====
section
/-!
DEFINITION. Safe runs, in the terms claims use. `Faulted` is never the end of a correct program and `Halted` is its normal
end (10_state.md R45, 60_exceptions.md R440, R452).
-/

namespace Sys2Proof.Machine

/-- No fatal condition has been raised (R440). -/
def State.safe (s : State) : Bool :=
  match s.run with
  | .faulted _ => false
  | _ => true

/-- What an outcome of a step gives a safe run: a next state in which no fatal condition has been raised. -/
def outcomeSafe : Host.Outcome State Fault Refusal → Bool
  | .next t => t.safe
  | .fault _ => false
  | .refused _ => false

/-- The run from `s` raises no fatal condition in `n` steps; a halted machine takes no more steps (R452). -/
def safeFor : Nat → State → Bool
  | 0, s => s.safe
  | n + 1, s =>
    match s.run with
    | .faulted _ => false
    | .halted => true
    | .running =>
      match step s with
      | .next t => safeFor n t
      | _ => false

end Sys2Proof.Machine
end

