-- ==== Sys2Proof/Certificates/Slice0/Obligations.lean ====
section
/-!
DEFINITION. The statements for the provers. `Sys2Proof.Claims` holds the shapes they share; an exact next state written as a
record update is the instruction's effect and its frame at once: every field not named is as it was. A fatal condition
(R440, R449) is shown as the model shows it, by a next state with `run = faulted` (log 6). The cycle counts written in the
statements about instructions are those of R132, R133, R507 and R508, the replaceable table of R510 (log 25).
-/

namespace Sys2Proof.Claims

open Sys2Proof.Machine

/-- The state one instruction later: `n` cycles charged, `PC` past an instruction of `len` bytes (R23, R396, R505). -/
def after (len n : Nat) (pc0 : Addr) (s : State) : State := tick n { s with pc := pc0 + BitVec.ofNat 16 len }

/-- `i` reads the operand `o` and changes the machine by `f` of the byte read; it is `len` bytes long and costs `n`
cycles, one more for a crossed page where `plus`. If the operand's access is fatal, that is the outcome. -/
def Reads (i : Instr) (o : Operand) (len n : Nat) (plus : Bool) (f : Byte → State → State) : Prop :=
  ∀ s : State,
    (∀ b crossed s1, readOperand o s = .ok (b, crossed) s1 →
      exec i s = .next (after len (n + if plus && crossed then 1 else 0) s.pc (f b s1))) ∧
    (∀ k s1, readOperand o s = .fatal k s1 → exec i s = .next { s1 with run := .faulted k })

/-- `i` writes the byte `v` of the state before it to the effective address of `m`, reading nothing there. -/
def Stores (i : Instr) (m : MemMode) (len n : Nat) (v : State → Byte) : Prop :=
  ∀ (s : State) ea crossed s1, effAddr m s = .ok (ea, crossed) s1 →
    (∀ charged s2, memWrite ea (v s) s1 = .ok charged s2 → exec i s = .next (after len (n + charged) s.pc s2)) ∧
    (∀ k s2, memWrite ea (v s) s1 = .fatal k s2 → exec i s = .next { s2 with run := .faulted k })

/-- `i` reads the byte at the effective address of `m`, writes what `f` makes of it to the same address, and then
changes registers by `g` of the byte written. If the write is fatal, `C` is as before it or as `f` has it: R449 leaves open
which. -/
def Modifies (i : Instr) (m : MemMode) (len n : Nat) (f : Byte → State → Byte × State) (g : Byte → State → State) :
    Prop :=
  ∀ (s : State) ea crossed s1, effAddr m s = .ok (ea, crossed) s1 →
    (∀ b s2, memRead ea s1 = .ok b s2 →
      (∀ charged s3, memWrite ea (f b s2).1 (f b s2).2 = .ok charged s3 →
        exec i s = .next (after len (n + charged) s.pc (g (f b s2).1 s3))) ∧
      (∀ k s3, memWrite ea (f b s2).1 (f b s2).2 = .fatal k s3 →
        ∃ c, (c = getFlag s2.p .c ∨ c = getFlag (f b s2).2.p .c) ∧
          exec i s = .next { s3 with p := putFlag s3.p .c c, run := .faulted k })) ∧
    (∀ k s2, memRead ea s1 = .fatal k s2 → exec i s = .next { s2 with run := .faulted k })

/-- `i` changes registers alone, by `f`. -/
def Registers (i : Instr) (len n : Nat) (f : State → State) : Prop :=
  ∀ s : State, exec i s = .next (after len n s.pc (f s))

/-- `i` branches by the displacement `b` when `cond` holds: 2 cycles not taken, 3 taken, 4 taken to another page. -/
def BranchesIf (i : Instr) (b : Byte) (cond : State → Bool) : Prop :=
  ∀ s : State,
    (cond s = false → exec i s = .next (tick 2 { s with pc := s.pc + 2 })) ∧
    (cond s = true →
      exec i s = .next (tick (if hiByte (s.pc + 2 + b.signExtend 16) = hiByte (s.pc + 2) then 3 else 4)
        { s with pc := s.pc + 2 + b.signExtend 16 }))

/-- `P` with `Z` and `N` of a result byte (R25). -/
def zn (p v : Byte) : Byte := putFlag (putFlag p .z (decide (v = 0))) .n (decide (128 ≤ v.toNat))

/-- The state with `A`, `C`, `V`, `Z`, `N` as after adding the byte `m` and the carry to `A` (R190). -/
def added (m : Byte) (s : State) : State :=
  let sum := s.a.toNat + m.toNat + (getFlag s.p .c).toNat
  let signed := s.a.toInt + m.toInt + (getFlag s.p .c).toNat
  let r := BitVec.ofNat 8 sum
  { s with
    a := r
    p := zn (putFlag (putFlag s.p .c (decide (255 < sum))) .v (decide (signed < -128 ∨ 127 < signed))) r }

/-- The state with `C`, `Z`, `N` as after comparing the register value `r` with the byte `m` (R197). -/
def compared (r m : Byte) (s : State) : State :=
  { s with p := zn (putFlag s.p .c (decide (m.toNat ≤ r.toNat))) (r - m) }

/-- The result of a shift or rotate of `v`: the byte, and the state with the bit shifted out in `C`. -/
def shifted (r : Nat) (carry : Bool) (s : State) : Byte × State :=
  (BitVec.ofNat 8 r, { s with p := putFlag s.p .c carry })

/-- ASL's result: twice the byte modulo 256, `C` its bit 7 (R231). -/
def shiftedLeft (v : Byte) (s : State) : Byte × State := shifted (2 * v.toNat) (decide (128 ≤ v.toNat)) s

/-- LSR's result: half the byte, `C` its bit 0 (R232). -/
def shiftedRight (v : Byte) (s : State) : Byte × State := shifted (v.toNat / 2) (decide (v.toNat % 2 = 1)) s

/-- ROL's result: the old carry enters bit 0 (R233). -/
def rotatedLeft (v : Byte) (s : State) : Byte × State :=
  shifted (2 * v.toNat + (getFlag s.p .c).toNat) (decide (128 ≤ v.toNat)) s

/-- ROR's result: the old carry enters bit 7 (R234). -/
def rotatedRight (v : Byte) (s : State) : Byte × State :=
  shifted (v.toNat / 2 + 128 * (getFlag s.p .c).toNat) (decide (v.toNat % 2 = 1)) s

/-- An accumulator shift by `f`: `A` the result, `C` the bit shifted out, `Z` and `N` of the result (R230). -/
def accumulatorBy (f : Byte → State → Byte × State) (s : State) : State :=
  { s with a := (f s.a s).1, p := zn (f s.a s).2.p (f s.a s).1 }

/-- `Z` and `N` of a result byte and nothing else (R25). -/
def flagged (r : Byte) (s : State) : State := { s with p := zn s.p r }

/-- AND, ORA, EOR: `A` the combination `r`, `Z` and `N` of it (R193 to R195). -/
def loadedA (r : Byte) (s : State) : State := { s with a := r, p := zn s.p r }

/-- The byte a read-modify-write of `v` writes back, by mnemonic (R201, R202, R231 to R234, R313 to R318). -/
def modifiedByte (n : Mnemonic) (v : Byte) (s : State) : Byte :=
  match n with
  | .inc | .isb => v + 1
  | .dec | .dcp => v - 1
  | .asl | .slo => (shiftedLeft v s).1
  | .lsr | .sre => (shiftedRight v s).1
  | .rol | .rla => (rotatedLeft v s).1
  | _ => (rotatedRight v s).1

/-- The byte a store writes, by mnemonic (R163 to R165, R312). -/
def registerByte (n : Mnemonic) (s : State) : Byte :=
  match n with
  | .sta => s.a
  | .stx => s.x
  | .sty => s.y
  | _ => s.a &&& s.x

/-- ANC (R319). -/
def anced (m : Byte) (s : State) : State :=
  { s with a := s.a &&& m, p := putFlag (zn s.p (s.a &&& m)) .c (decide (128 ≤ (s.a &&& m).toNat)) }

/-- ALR (R320). -/
def alred (m : Byte) (s : State) : State :=
  let q := shiftedRight (s.a &&& m) s
  { s with a := q.1, p := zn q.2.p q.1 }

/-- ARR (R321). -/
def arred (m : Byte) (s : State) : State :=
  let r := (rotatedRight (s.a &&& m) s).1
  { s with a := r, p := putFlag (putFlag (zn s.p r) .c (r.getLsbD 6)) .v (r.getLsbD 6 ^^ r.getLsbD 5) }

/-- AXS (R322). -/
def axsed (m : Byte) (s : State) : State :=
  let t := s.a &&& s.x
  { s with x := t - m, p := zn (putFlag s.p .c (decide (m.toNat ≤ t.toNat))) (t - m) }

/-- LAS (R324). -/
def lased (m : Byte) (s : State) : State :=
  let t := m &&& s.sp
  { s with a := t, x := t, sp := t, p := zn s.p t }

/-- BIT (R196). -/
def bitTested (m : Byte) (s : State) : State :=
  { s with p := putFlag (putFlag (putFlag s.p .z (decide (s.a &&& m = 0))) .n (m.getLsbD 7)) .v (m.getLsbD 6) }

/-- The byte in the memory at a CPU address, where there is memory: `RAM` or `PRG` (R64, R74). -/
def storedByte (s : State) (a : Addr) : Option Byte :=
  if a.toNat < 0x2000 then some (s.ram.read (a.toNat % 0x800))
  else if a.toNat < 0x8000 then none
  else some (s.cart.prg.read ((a.toNat - 0x8000) % s.cart.prgSize.bytes))

/-- The address is in the PPU window with register number `r` (R65). -/
abbrev ppuReg (a : Addr) (r : Nat) : Prop := 0x2000 ≤ a.toNat ∧ a.toNat < 0x4000 ∧ a.toNat % 8 = r

/-- Every memory of the machine is in canonical form (log 12). -/
abbrev MemoriesCanonical (s : State) : Prop :=
  s.ram.wf 2048 ∧ s.ppu.vram.wf 2048 ∧ s.ppu.palette.wf 32 ∧ s.ppu.oam.wf 256 ∧
  s.cart.prg.wf s.cart.prgSize.bytes ∧ s.cart.chr.wf 8192

/-- The PPU stands where the cycle count puts it (R38, R397). -/
abbrev PpuOnSchedule (s : State) : Prop :=
  s.ppu.scanline ≤ 261 ∧ s.ppu.dot ≤ 340 ∧ s.ppu.scanline * 341 + s.ppu.dot = 3 * s.cycles % 89342

/-- `vblank` and a pending request occur only from scanline 241 dot 1 to the end of the frame (R394, R395). -/
abbrev VblankInPeriod (s : State) : Prop :=
  s.ppu.scanline ≤ 261 ∧ s.ppu.dot ≤ 340 ∧
  (s.ppu.status.getLsbD 7 = true ∨ s.ppu.pendingNmi = true → 82182 ≤ s.ppu.scanline * 341 + s.ppu.dot)

/-- Break1 is 0 and Break2 is 1 in `P` (R24). -/
abbrev BreakBitsFixed (s : State) : Prop := getFlag s.p .b1 = false ∧ getFlag s.p .b2 = true

/-- Bits 6 to 0 of `PPU.status` are 0 (R33). -/
abbrev StatusBitsFixed (s : State) : Prop := s.ppu.status &&& 0x7F = 0

/-- Every invariant stated here holds, the joypad's index is in R470's range, and the machine is running. -/
abbrev MeetsEveryInvariant (s : State) : Prop :=
  MemoriesCanonical s ∧ PpuOnSchedule s ∧ VblankInPeriod s ∧ BreakBitsFixed s ∧ StatusBitsFixed s ∧ s.joy.index ≤ 8 ∧
  s.run = .running

/-- The machine that R48 gives after power-on and `reset()`: the launch state's memories, every register at its value. -/
def broughtUp (cfg : Params) (cart : Cartridge) (l : Launch) : State :=
  { a := 0, x := 0, y := 0, sp := cfg.spReset, p := 0x24
    pc := hilo (cart.prg.read (0x7FFD % cart.prgSize.bytes)) (cart.prg.read (0x7FFC % cart.prgSize.bytes))
    ram := l.ram
    ppu :=
      { ctrl := 0, mask := 0, status := 0, oamAddr := 0, scrollX := 0, scrollY := 0, scrollLatch := .first, v := 0
        addrLatch := .high, readBuffer := 0, scanline := 0, dot := 0, pendingNmi := false
        vram := l.vram, palette := l.palette, oam := l.oam }
    joy := { strobe := false, index := 0, buttons := 0 }
    cycles := 0, run := .running, frameReady := false, cart := cart, cfg := cfg }

/-- `s` after byte `b` has been written through the OAM data port (R359). -/
def withOamByte (b : Byte) (s : State) : State :=
  { s with ppu := { s.ppu with oam := s.ppu.oam.write s.ppu.oamAddr.toNat b, oamAddr := s.ppu.oamAddr + 1 } }

/-- The first `n` reads of a DMA from `page` complete: `σ i` is the state before read `i`, `β i` the byte it gives, which
is stored before the next read (R370). -/
def DmaReads (page : Byte) (n : Nat) (σ : Nat → State) (β : Nat → Byte) : Prop :=
  ∀ i, i < n → ∃ r, memRead (hilo page (BitVec.ofNat 8 i)) (σ i) = .ok (β i) r ∧ σ (i + 1) = withOamByte (β i) r

/-! The picture in the arithmetic of R411 to R423: one pixel, from the bytes of `CHR` and of the PPU's memories. -/

/-- Bit `k` of a byte, 0 or 1. -/
def bitOf (b : Byte) (k : Nat) : Nat := b.toNat / 2 ^ k % 2

/-- `Colour(PPU.palette[i])` as a number (R411). -/
def shade (u : Ppu) (i : Nat) : Nat := (u.palette.read i).toNat % 64

/-- The pattern table a Control bit selects (R416, R422). -/
def patternTable (u : Ppu) (k : Nat) : Nat := 0x1000 * bitOf u.ctrl k

/-- `Pattern(base, t, i, j)` (R417). -/
def patternValue (cart : Cartridge) (base t i j : Nat) : Nat :=
  2 * bitOf (cart.chr.read (base + 16 * t + 8 + j)) (7 - i) + bitOf (cart.chr.read (base + 16 * t + j)) (7 - i)

/-- The main nametable's bank (R413), `FourScreen` as `Horizontal` by D27, where R413's table differs for `n` = 2, 3
(log 26). -/
def mainNametable (mi : Mirroring) (u : Ppu) : Nat :=
  match mi, u.ctrl.toNat % 4 with
  | .vertical, 0 | .vertical, 2 | .horizontal, 0 | .horizontal, 1 | .fourScreen, 0 | .fourScreen, 1 => 0
  | .vertical, _ | .horizontal, _ | .fourScreen, _ => 1

/-- `BgPixel` at plane pixel `(x, y)` of a bank (R415, R418, R419): byte 32 * row + column is the tile, two bits of the byte
for its 32 by 32 pixel block, by quadrant, the palette group. -/
def backgroundShade (cart : Cartridge) (u : Ppu) (bank x y : Nat) : Nat :=
  let tile := (u.vram.read (bank * 0x400 + (y / 8 * 32 + x / 8))).toNat
  let block := (u.vram.read (bank * 0x400 + (0x3C0 + y / 32 * 8 + x / 32))).toNat
  let group := block / 4 ^ (x / 16 % 2 + 2 * (y / 16 % 2)) % 4
  let p := patternValue cart (patternTable u 4) tile (x % 8) (y % 8)
  if p = 0 then shade u 0 else shade u (4 * group + p)

/-- The background at picture pixel `(x, y)`, where a region of R414 reaches it. -/
def backgroundShown (cart : Cartridge) (u : Ppu) (x y : Nat) : Option Nat :=
  let x' := x + u.scrollX.toNat
  let y' := y + u.scrollY.toNat
  let main := mainNametable cart.mirroring u
  if 256 ≤ x' then some (backgroundShade cart u (1 - main) (x' - 256) y)
  else if y' < 240 then some (backgroundShade cart u main x' y')
  else if u.scrollX = 0 ∧ y' < 480 then some (backgroundShade cart u (1 - main) x (y' - 240))
  else none

/-- Sprite `n` at picture pixel `(x, y)`, where it is opaque (R421 to R423): bytes Y, tile, attributes, X. -/
def spriteShown (cart : Cartridge) (u : Ppu) (x y n : Nat) : Option Nat :=
  let top := (u.oam.read (4 * n)).toNat
  let tile := (u.oam.read (4 * n + 1)).toNat
  let attr := u.oam.read (4 * n + 2)
  let left := (u.oam.read (4 * n + 3)).toNat
  if left ≤ x ∧ x ≤ left + 7 ∧ top ≤ y ∧ y ≤ top + 7 then
    let i := if bitOf attr 6 = 1 then left + 7 - x else x - left
    let j := if bitOf attr 7 = 1 then top + 7 - y else y - top
    let p := patternValue cart (patternTable u 3) tile i j
    if p = 0 then none else some (shade u (0x10 + 4 * (attr.toNat % 4) + p))
  else none

/-- The colour index of a pixel: the lowest opaque sprite, else the background, else palette entry 0 (R410, R420). -/
def shownAt (cart : Cartridge) (u : Ppu) (x y : Nat) : Nat :=
  match (List.range 64).findSome? (spriteShown cart u x y) with
  | some c => c
  | none => (backgroundShown cart u x y).getD (shade u 0)

/-- `RAM` with the interrupt frame of R457 pushed. -/
def nmiFrame (s : State) : Memory :=
  ((s.ram.write (0x100 + s.sp.toNat) (hiByte s.pc)).write (0x100 + (s.sp - 1).toNat) (loByte s.pc)).write
    (0x100 + (s.sp - 2).toNat) ((s.p &&& 0xEF) ||| 0x20)

/-- The state after the poll: the NMI entered if a request is pending (R456, R457), else as it was. -/
def polled (s : State) : State :=
  if s.ppu.pendingNmi then
    { tick s.cfg.nmiCycles
        { s with
          ram := nmiFrame s
          sp := s.sp - 3
          p := putFlag s.p .i true
          ppu := { s.ppu with pendingNmi := false } } with
      pc := hilo (s.cart.prg.read (0x7FFB % s.cart.prgSize.bytes)) (s.cart.prg.read (0x7FFA % s.cart.prgSize.bytes)) }
  else s

end Sys2Proof.Claims

open Sys2Proof Sys2Proof.Machine Sys2Proof.Claims

/-- Fifteen byte sequences written out from R121, R132, R133 and R135 (one or more of every family, every length,
little-endian operands) decode to their instructions with nothing left over. [30_encoding.md R121, 30_encoding.md
R132, 30_encoding.md R133, 30_encoding.md R135] -/
def Obligations.SpecWordsDecode : Prop :=
  decode [0xA9, 0xC0] = .ok (.ldaImm 0xC0, []) ∧
  decode [0xBD, 0xFF, 0x10] = .ok (.ldaAbsx 0x10FF, []) ∧
  decode [0x8D, 0x00, 0x08] = .ok (.staAbs 0x0800, []) ∧
  decode [0xAA] = .ok (.tax, []) ∧
  decode [0xE8] = .ok (.inx, []) ∧
  decode [0x71, 0x20] = .ok (.adcIndy 0x20, []) ∧
  decode [0x6E, 0x00, 0x02] = .ok (.rorAbs 0x0200, []) ∧
  decode [0xD0, 0xFB] = .ok (.bne 0xFB, []) ∧
  decode [0x6C, 0xFF, 0x02] = .ok (.jmpInd 0x02FF, []) ∧
  decode [0x00] = .ok (.brk, []) ∧
  decode [0x48] = .ok (.pha, []) ∧
  decode [0xB6, 0xF0] = .ok (.ldxZpy 0xF0, []) ∧
  decode [0xE3, 0x10] = .ok (.isbIndx 0x10, []) ∧
  decode [0x1C, 0xFF, 0x10] = .ok (.nopAbsx1C 0x10FF, []) ∧
  decode [0x02] = .ok (.ill 0x02, [])

/-- For every well-formed instruction of the whole set, with every operand value, and whatever bytes follow it, decode
of its encoding followed by those bytes is the instruction and the bytes. [30_encoding.md section 1 (R120, R121),
30_encoding.md section 4 (R136)] -/
def Obligations.DecodeOfEncode : Prop :=
  ∀ (i : Instr) (rest : List Byte), i.wf = true → decode (encode i ++ rest) = .ok (i, rest)

/-- Whenever decode reads an instruction from a list of bytes and leaves a rest, the instruction is well-formed and its
encoding followed by the rest is the list: no two encodings mean one instruction and no operand bit is dropped.
[30_encoding.md section 1 (R120, R121), 30_encoding.md section 3 (R131 to R134)] -/
def Obligations.EncodeOfDecode : Prop :=
  ∀ (bytes : List Byte) (i : Instr) (rest : List Byte),
    decode bytes = .ok (i, rest) → i.wf = true ∧ encode i ++ rest = bytes

/-- For every instruction: 1 byte for imp and acc, 2 for imm, zp, zpx, zpy, indx, indy, rel, 3 for abs, absx, absy, ind;
the decoder needs exactly that many bytes. ILL is included: R137 gives an illegal byte no length, and that its
encoding is its one byte is the model's choice (log 21). [30_encoding.md R137, 30_encoding.md R121, log 21] -/
def Obligations.LengthFollowsTheMode : Prop :=
  ∀ i : Instr, i.wf = true →
    (encode i).length = i.length ∧
    (match i.mode with
     | .imp | .acc => i.length = 1
     | .imm _ | .rel _ => i.length = 2
     | .mem (.zp _) | .mem (.zpx _) | .mem (.zpy _) | .mem (.indx _) | .mem (.indy _) => i.length = 2
     | .mem (.abs _) | .mem (.absx _) | .mem (.absy _) | .mem (.ind _) => i.length = 3) ∧
    (∀ n < i.length, ∀ j, decode ((encode i).take n) ≠ .ok j)

/-- Whatever the operand bytes, an opcode byte decodes to ILL if and only if it is in the list of R135; the list has 25
different bytes. [30_encoding.md R131, 30_encoding.md R135] -/
def Obligations.ExactlyTwentyFiveBytesAreIllegal : Prop :=
  (∀ op b1 b2 : Byte, (∃ o, instrOf op b1 b2 = .ill o) ↔
    op ∈ ([0x02, 0x12, 0x22, 0x32, 0x42, 0x52, 0x62, 0x72, 0x92, 0xB2, 0xD2, 0xF2, 0x1A, 0x3A, 0x5A, 0x7A, 0xDA,
      0xFA, 0x8B, 0xAB, 0x9B, 0x93, 0x9F, 0x9E, 0x9C] : List Byte)) ∧
  (∀ op b1 b2 o, instrOf op b1 b2 = .ill o → o = op) ∧
  illegalOpcodes.Nodup ∧ illegalOpcodes.length = 25

/-- On a running machine with no pending NMI: if a list of bytes decodes whole to an instruction and those bytes are
stored at PC, PC+1, ... in RAM or PRG, then step is exec of that instruction at the same state (with the step's
output event, the model's own field, log 8, cleared). [60_exceptions.md R450, 30_encoding.md R120, 20_memory.md
R103] -/
def Obligations.StepRunsTheDecodedInstruction : Prop :=
  ∀ (s : State) (bytes : List Byte) (i : Instr),
    s.run = .running → s.ppu.pendingNmi = false → decode bytes = .ok (i, []) →
    (∀ k, k < bytes.length → storedByte s (s.pc + BitVec.ofNat 16 k) = bytes[k]?) →
    step s = exec i { s with frameReady := false }

/-- On a running machine: if the NMI poll leaves a state and the fetch there gives an instruction (device registers
included, with their read side effects), step is exec of it; if the fetch is fatal, the next state is Faulted with
PC at the opcode. [60_exceptions.md R450, 20_memory.md R85, 60_exceptions.md R449] -/
def Obligations.StepFetchesFromAnyAddress : Prop :=
  ∀ s : State, s.run = .running →
    ∃ e, pollNmi { s with frameReady := false } = .ok () e ∧
      (∀ i t, fetch e = .ok i t → step s = exec i t ∧ t.pc = e.pc) ∧
      (∀ k t, fetch e = .fatal k t → step s = .next { t with run := .faulted k } ∧ t.pc = e.pc)

/-- ill: exec of ILL with byte op gives the state with run = Faulted(IllegalOpcode(op, PC)) and no other field changed
(no cycle, no Tick); and a step whose opcode read gives one of the 25 bytes ends in the state after that read (its
side effects included) with only run changed, whatever bytes follow. [R442] -/
def Obligations.IllegalOpcodeFaults : Prop :=
  (∀ (op : Byte) (s : State), exec (.ill op) s = .next { s with run := .faulted (.illegalOpcode op s.pc) }) ∧
  (∀ (op : Byte) (s t : State), s.run = .running → s.ppu.pendingNmi = false → op ∈ illegalOpcodes →
    memRead s.pc { s with frameReady := false } = .ok op t →
    step s = .next { t with run := .faulted (.illegalOpcode op s.pc) })

/-- step answers a next state for every state with run = Running, whatever the instruction and the memory; on a Halted
or Faulted machine, where the spec defines no Step, it stops with a named fault; exec answers a next state on every
instruction and state. That such a step answers a named Fault, and that a fatal condition and BRK are next states,
is how the model shows the spec's undefined Step and its terminal states (log 7, log 6). [60_exceptions.md R440,
60_exceptions.md R451, 60_exceptions.md R452, log 6, log 7] -/
def Obligations.StepIsDefinedExactlyWhenRunning : Prop :=
  (∀ s : State, s.run = .running → ∃ t, step s = .next t) ∧
  (∀ s : State, s.run = .halted → step s = .fault .stepWhileHalted) ∧
  (∀ (s : State) k, s.run = .faulted k → step s = .fault (.stepWhileFaulted k)) ∧
  (∀ (i : Instr) (s : State), ∃ t, exec i s = .next t)

/-- If PPU.pendingNmi is set, the poll clears it and enters the NMI whatever P.I is: PC high, PC low and P with Break1 =
0, Break2 = 1 go to the stack at S, S-1, S-2 within page 1, S falls by 3, P.I is set, NMI_CYCLES are ticked, PC is
the word at 0xFFFA, nothing else changes. If it is clear, the poll changes nothing. On a running machine step is
that, then the fetch of an instruction in the state the poll left, then exec of it; a fatal fetch there ends the
step. The output event, the model's own field (log 8), is cleared before the poll, and a fatal fetch is a next state
(log 6). [60_exceptions.md R456, 60_exceptions.md R457, 60_exceptions.md R450, log 6, log 8] -/
def Obligations.PendingNmiIsEnteredFirst : Prop :=
  (∀ s : State, pollNmi s = .ok () (polled s)) ∧
  (∀ s : State, s.run = .running →
    (∀ i t, fetch (polled { s with frameReady := false }) = .ok i t → step s = exec i t) ∧
    (∀ k t, fetch (polled { s with frameReady := false }) = .fatal k t → step s = .next { t with run := .faulted k }))

/-- If an NMI is entered in a state whose P has Break1 = 0 and Break2 = 1, then RTI executed with the stack as the entry
left it gives a next state with the PC, S and P from before the entry. [60_exceptions.md R459, 43_control_flow.md
R264, 60_exceptions.md R457] -/
def Obligations.RtiResumesWhatTheNmiPreceded : Prop :=
  ∀ s e : State, BreakBitsFixed s → s.ppu.pendingNmi = true → pollNmi s = .ok () e →
    ∃ t, exec .rti e = .next t ∧ t.pc = s.pc ∧ t.sp = s.sp ∧ t.p = s.p ∧
      t.a = s.a ∧ t.x = s.x ∧ t.y = s.y ∧ t.ram = e.ram

/-- If RAM, VRAM, palette, OAM, PRG and CHR are canonical (rising indices inside the array, no unlisted value listed:
the model's own form, log 12) and a step answers a next state, they are canonical there. [00_scope.md R6,
20_memory.md section 1 (R60)] -/
def Obligations.StepKeepsMemoriesCanonical : Prop :=
  ∀ s t : State, MemoriesCanonical s → step s = .next t → MemoriesCanonical t

/-- If the scanline is in 0..261, the dot in 0..340 and scanline * 341 + dot = (3 * cycles) mod 89342, the same holds
after any step, NMI entries, DMA and fatal steps included. [48_ppu_timing.md R397, 10_state.md R38] -/
def Obligations.StepKeepsThePpuOnSchedule : Prop :=
  ∀ s t : State, PpuOnSchedule s → step s = .next t → PpuOnSchedule t

/-- If the counters are in range and status bit 7 or pendingNmi is set only at frame positions from 82182 on, the same
holds after any step: the frame wrap withdraws both, and a Control write raises the request only while vblank is
set. [48_ppu_timing.md R393, 48_ppu_timing.md R394, 48_ppu_timing.md R395, 48_ppu_timing.md R399] -/
def Obligations.StepKeepsVblankInItsPeriod : Prop :=
  ∀ s t : State, VblankInPeriod s → step s = .next t → VblankInPeriod t

/-- If Break1 = 0 and Break2 = 1 in P, so they are after any step; if bits 6 to 0 of PPU.status are 0 (sprite-zero-hit
and overflow are never set), so they are after any step; a joypad index of at most 8 stays so. [10_state.md R24,
10_state.md R33, 48_ppu_timing.md R392, 60_exceptions.md R470] -/
def Obligations.StepKeepsTheFixedBits : Prop :=
  ∀ s t : State, step s = .next t →
    (BreakBitsFixed s → BreakBitsFixed t) ∧ (StatusBitsFixed s → StatusBitsFixed t) ∧
    (s.joy.index ≤ 8 → t.joy.index ≤ 8)

/-- For every cartridge, parameters and launch state: power-on then reset() gives A, X, Y = 0, S = SP_RESET, P = 0x24,
PC the word at 0xFFFC, the PPU and joypad registers at their first values, cycles 0, Running, and the launch state's
memories. If those memories and the cartridge are canonical (log 12), it has a PPU on schedule with no vblank, the
Break and status bits fixed, and is Running. bringUp is parse, power-on, reset; it answers a load error exactly as
the parse does; a machine it builds meets every invariant if the launch memories are canonical. State.reset, whose
memories, cartridge and NMI_CYCLES are the model's choice (log 1, log 2, log 4), is one of these machines.
frameReady is the model's own field (log 8). [10_state.md R48, 70_reset_and_hazards.md R480, 70_reset_and_hazards.md
R482, 60_exceptions.md R470, log 1, log 2, log 4, log 8, log 12] -/
def Obligations.ResetMeetsEveryInvariant : Prop :=
  (∀ (cfg : Params) (cart : Cartridge) (l : Launch), resetCpu (powerOn cfg cart l) = broughtUp cfg cart l) ∧
  (∀ (cfg : Params) (cart : Cartridge) (l : Launch),
    MemoriesCanonical (powerOn cfg cart l) → MeetsEveryInvariant (resetCpu (powerOn cfg cart l))) ∧
  (∀ (cfg : Params) (image : List Byte) (l : Launch),
    (∀ cart, parseInes image = .ok cart → bringUp cfg image l = .ok (broughtUp cfg cart l)) ∧
    (∀ e, parseInes image = .error e → bringUp cfg image l = .error e)) ∧
  (∀ (cfg : Params) (image : List Byte) (l : Launch) (t : State),
    l.ram.wf 2048 → l.vram.wf 2048 → l.palette.wf 32 → l.oam.wf 256 → bringUp cfg image l = .ok t →
    MeetsEveryInvariant t) ∧
  State.reset = broughtUp Params.default Cartridge.blank
    { a := 0, x := 0, y := 0, sp := 0, p := 0, pc := 0, ram := [], vram := [], palette := [], oam := [] } ∧
  MeetsEveryInvariant State.reset

/-- PRG, CHR, MIRRORING, MAPPER and the numeric parameters are the same after every step: a write to ROM is fatal and a
write to CHR is dropped. [00_scope.md R7, 10_state.md R43, 20_memory.md R75, 20_memory.md R92] -/
def Obligations.StepNeverChangesTheCartridge : Prop :=
  ∀ s t : State, step s = .next t → t.cart = s.cart ∧ t.cfg = s.cfg ∧ t.joy.buttons = s.joy.buttons

/-- If exec of an instruction on a running machine gives a halted state, the instruction is brk; and brk always halts:
PC past it, nothing pushed, no flag changed, no cycle charged, no Tick. [R265] -/
def Obligations.OnlyBrkHalts : Prop :=
  (∀ (i : Instr) (s t : State), s.run = .running → exec i s = .next t → t.run = .halted → i = .brk) ∧
  (∀ s : State, exec .brk s = .next { s with pc := s.pc + 1, run := .halted })

/-- For every instruction: if it turns a running machine into a Faulted one, PC, A, X, Y, S, every flag but C, the cycle
count and the PPU position are those before the instruction; and the faulting access itself changes nothing (the DMA
port apart, whose earlier bytes stand). [60_exceptions.md R449, 20_memory.md R75, 47_ppu_registers.md R356] -/
def Obligations.FatalStateIsPrecise : Prop :=
  (∀ (i : Instr) (s t : State) k, s.run = .running → exec i s = .next t → t.run = .faulted k →
    t.pc = s.pc ∧ t.a = s.a ∧ t.x = s.x ∧ t.y = s.y ∧ t.sp = s.sp ∧ (∀ f, f ≠ .c → getFlag t.p f = getFlag s.p f) ∧
    t.cycles = s.cycles ∧ t.ppu.scanline = s.ppu.scanline ∧ t.ppu.dot = s.ppu.dot) ∧
  (∀ (a : Addr) (s t : State) k, memRead a s = .fatal k t → t = s) ∧
  (∀ (a : Addr) (b : Byte) (s t : State) k, a ≠ 0x4014 → memWrite a b s = .fatal k t → t = s)

/-- For every instruction whose mnemonic is not one of BPL BMI BVC BVS BCC BCS BNE BEQ JMP JSR RTS RTI BRK and is not
ILL: if it leaves a running machine running, PC is past it by its length. That the undocumented instructions execute
is the spec's ASSUMED reading (D31), which the model presumes (log 11). [43_control_flow.md R250, 10_state.md R23,
log 11] -/
def Obligations.OnlyTransfersMoveThePc : Prop :=
  ∀ (i : Instr) (s t : State),
    i.mnemonic ∉ ([.bpl, .bmi, .bvc, .bvs, .bcc, .bcs, .bne, .beq, .jmp, .jsr, .rts, .rti, .brk, .ill] : List Mnemonic) →
    s.run = .running → exec i s = .next t → t.run = .running → t.pc = s.pc + BitVec.ofNat 16 i.length

/-- zp, zpx, zpy wrap in page 0; abs is its operand; absx and absy add the index modulo 65536 and report a changed page;
indx and indy take their pointer bytes from page 0 of RAM, wrapping within it, low byte first. No register and no
memory changes and nothing faults. An immediate operand is its byte; an operand at an address where RAM or PRG is,
is the byte there, with no side effect. [R124, R125, R126] -/
def Obligations.EffectiveAddresses : Prop :=
  ∀ (b : Byte) (w : Addr) (s : State),
    effAddr (.zp b) s = .ok (b.setWidth 16, false) s ∧
    effAddr (.zpx b) s = .ok ((b + s.x).setWidth 16, false) s ∧
    effAddr (.zpy b) s = .ok ((b + s.y).setWidth 16, false) s ∧
    effAddr (.abs w) s = .ok (w, false) s ∧
    effAddr (.absx w) s =
      .ok (w + s.x.setWidth 16, decide (hiByte (w + s.x.setWidth 16) ≠ hiByte w)) s ∧
    effAddr (.absy w) s =
      .ok (w + s.y.setWidth 16, decide (hiByte (w + s.y.setWidth 16) ≠ hiByte w)) s ∧
    effAddr (.indx b) s =
      .ok (hilo (s.ram.read (b + s.x + 1).toNat) (s.ram.read (b + s.x).toNat), false) s ∧
    (let base := hilo (s.ram.read (b + 1).toNat) (s.ram.read b.toNat)
     effAddr (.indy b) s = .ok (base + s.y.setWidth 16, decide (hiByte (base + s.y.setWidth 16) ≠ hiByte base)) s) ∧
    readOperand (.imm b) s = .ok (b, false) s ∧
    (∀ (m : MemMode) ea crossed, effAddr m s = .ok (ea, crossed) s → storedByte s ea = some b →
      readOperand (.mem m) s = .ok (b, crossed) s)

/-- RAM mirrored every 0x800; write-only registers and 0x4014 read 0 (or are fatal under STRICT_WRITE_ONLY_READ); status
returns its byte, clears vblank and resets both latches; OAM data has no side effect; 0x4000 to 0x7FFF reads 0 but
for the joypad; PRG from 0x8000. The Data register is stated in DataReadIsBuffered. That WriteOnlyRead records the
address as accessed, a mirror's own, is the model's reading (log 14). [20_memory.md R61, 20_memory.md R65,
20_memory.md R67, 20_memory.md R72, 20_memory.md R73, 20_memory.md R74, 47_ppu_registers.md R355,
47_ppu_registers.md R358, log 14] -/
def Obligations.BusReadFollowsTheAddressMap : Prop :=
  ∀ (a : Addr) (s : State),
    (a.toNat < 0x2000 → memRead a s = .ok (s.ram.read (a.toNat % 0x800)) s) ∧
    (ppuReg a 0 ∨ ppuReg a 1 ∨ ppuReg a 3 ∨ ppuReg a 5 ∨ ppuReg a 6 ∨ a = 0x4014 →
      memRead a s = if s.cfg.strictWriteOnlyRead then .fatal (.writeOnlyRead a) s else .ok 0 s) ∧
    (ppuReg a 2 →
      memRead a s = .ok s.ppu.status
        { s with ppu := { s.ppu with status := s.ppu.status &&& 0x7F, addrLatch := .high, scrollLatch := .first } }) ∧
    (ppuReg a 4 → memRead a s = .ok (s.ppu.oam.read s.ppu.oamAddr.toNat) s) ∧
    (0x4000 ≤ a.toNat → a.toNat < 0x8000 → a ≠ 0x4014 → (a ≠ 0x4016 ∨ s.cfg.joypadPresent = false) →
      memRead a s = .ok 0 s) ∧
    (0x8000 ≤ a.toNat → memRead a s = .ok (s.cart.prg.read ((a.toNat - 0x8000) % s.cart.prgSize.bytes)) s)

/-- With a = PPU.v: CHR and nametable bytes (through the mirroring) go to the buffer and the old buffer is returned;
palette bytes (index modulo 32, four aliases) are returned at once and leave the buffer; v steps by 1 or 32 modulo
0x4000; 0x3000 to 0x3EFF and a nametable under FourScreen are fatal with nothing changed. [47_ppu_registers.md R364,
47_ppu_registers.md R366, 20_memory.md R90, 20_memory.md R93, 20_memory.md R94, 20_memory.md R95] -/
def Obligations.DataReadIsBuffered : Prop :=
  ∀ (a : Addr) (s : State), ppuReg a 7 →
    let v := s.ppu.v
    let stepped : Ppu := { s.ppu with v := v + if s.ppu.ctrl.getLsbD 2 then 32 else 1 }
    let buffered := fun c : Byte => Access.ok s.ppu.readBuffer { s with ppu := { stepped with readBuffer := c } }
    (v.toNat < 0x2000 → memRead a s = buffered (s.cart.chr.read v.toNat)) ∧
    (0x2000 ≤ v.toNat → v.toNat < 0x3000 → s.cart.mirroring = .vertical →
      memRead a s = buffered (s.ppu.vram.read (v.toNat % 0x800))) ∧
    (0x2000 ≤ v.toNat → v.toNat < 0x3000 → s.cart.mirroring = .horizontal →
      memRead a s = buffered (s.ppu.vram.read ((v.toNat - 0x2000) / 0x800 * 0x400 + v.toNat % 0x400))) ∧
    (0x2000 ≤ v.toNat → v.toNat < 0x3000 → s.cart.mirroring = .fourScreen →
      memRead a s = .fatal .unsupportedMirroring s) ∧
    (0x3000 ≤ v.toNat → v.toNat < 0x3F00 → memRead a s = .fatal (.ppuAddrUnused v) s) ∧
    (0x3F00 ≤ v.toNat →
      memRead a s = .ok
        (s.ppu.palette.read (if 0x10 ≤ v.toNat % 32 ∧ v.toNat % 4 = 0 then v.toNat % 32 - 0x10 else v.toNat % 32))
        { s with ppu := stepped })

/-- RAM mirrored every 0x800; Mask, OAM address and OAM data as their rules say; status is fatal; 0x4000 to 0x7FFF is
ignored but for 0x4014 and the joypad; PRG is fatal. Nothing else changes and no cycle is charged. Control, Scroll,
Address, Data, DMA and the joypad have statements of their own. [20_memory.md R62, 20_memory.md R64, 20_memory.md
R66, 20_memory.md R72, 20_memory.md R73, 20_memory.md R75, 47_ppu_registers.md R353, 47_ppu_registers.md R356,
47_ppu_registers.md R357, 47_ppu_registers.md R359] -/
def Obligations.BusWriteFollowsTheAddressMap : Prop :=
  ∀ (a : Addr) (b : Byte) (s : State),
    (a.toNat < 0x2000 → memWrite a b s = .ok 0 { s with ram := s.ram.write (a.toNat % 0x800) b }) ∧
    (ppuReg a 1 → memWrite a b s = .ok 0 { s with ppu := { s.ppu with mask := b } }) ∧
    (ppuReg a 2 → memWrite a b s = .fatal (.ppuStatusWrite b) s) ∧
    (ppuReg a 3 → memWrite a b s = .ok 0 { s with ppu := { s.ppu with oamAddr := b } }) ∧
    (ppuReg a 4 →
      memWrite a b s = .ok 0
        { s with ppu := { s.ppu with oam := s.ppu.oam.write s.ppu.oamAddr.toNat b, oamAddr := s.ppu.oamAddr + 1 } }) ∧
    (0x4000 ≤ a.toNat → a.toNat < 0x8000 → a ≠ 0x4014 → (a ≠ 0x4016 ∨ s.cfg.joypadPresent = false) →
      memWrite a b s = .ok 0 s) ∧
    (0x8000 ≤ a.toNat → memWrite a b s = .fatal (.romWrite a b) s)

/-- The eight bits are stored; pendingNmi becomes 1 exactly when bit 7 was 0, is written 1 and status bit 7 is 1, and
otherwise stays as it was (a request is not withdrawn). Nothing else changes. [R352] -/
def Obligations.ControlWriteRearmsTheNmi : Prop :=
  ∀ (a : Addr) (b : Byte) (s : State), ppuReg a 0 →
    memWrite a b s = .ok 0
      { s with
        ppu := { s.ppu with
          ctrl := b
          pendingNmi :=
            if s.ppu.ctrl.getLsbD 7 = false ∧ b.getLsbD 7 = true ∧ s.ppu.status.getLsbD 7 = true then true
            else s.ppu.pendingNmi } }

/-- A Scroll write sets scrollX then scrollY and moves only its own latch. An Address write sets bits 13..8 (two bits
dropped, low byte kept) then bits 7..0 (high six bits kept) of v at once, and moves only its own latch. [R360, R362] -/
def Obligations.ScrollAndAddressLatches : Prop :=
  ∀ (a : Addr) (b : Byte) (s : State),
    (ppuReg a 5 → s.ppu.scrollLatch = .first →
      memWrite a b s = .ok 0 { s with ppu := { s.ppu with scrollX := b, scrollLatch := .second } }) ∧
    (ppuReg a 5 → s.ppu.scrollLatch = .second →
      memWrite a b s = .ok 0 { s with ppu := { s.ppu with scrollY := b, scrollLatch := .first } }) ∧
    (ppuReg a 6 → s.ppu.addrLatch = .high → ∃ v : PpuAddr,
      memWrite a b s = .ok 0 { s with ppu := { s.ppu with v := v, addrLatch := .low } } ∧
      v.toNat = b.toNat % 64 * 256 + s.ppu.v.toNat % 256) ∧
    (ppuReg a 6 → s.ppu.addrLatch = .low → ∃ v : PpuAddr,
      memWrite a b s = .ok 0 { s with ppu := { s.ppu with v := v, addrLatch := .high } } ∧
      v.toNat = s.ppu.v.toNat / 256 * 256 + b.toNat)

/-- With a = PPU.v: a nametable byte is written through the mirroring, a palette byte at its index modulo 32 with the
four aliases, a CHR write is dropped; v steps by 1 or 32 modulo 0x4000; the buffer is untouched; 0x3000 to 0x3EFF
and a nametable under FourScreen are fatal with nothing changed. [47_ppu_registers.md R365, 47_ppu_registers.md
R366, 20_memory.md R91, 20_memory.md R92, 20_memory.md R93, 20_memory.md R94, 20_memory.md R95] -/
def Obligations.DataWriteIsImmediate : Prop :=
  ∀ (a : Addr) (b : Byte) (s : State), ppuReg a 7 →
    let v := s.ppu.v
    let stepped : Ppu := { s.ppu with v := v + if s.ppu.ctrl.getLsbD 2 then 32 else 1 }
    (v.toNat < 0x2000 → memWrite a b s = .ok 0 { s with ppu := stepped }) ∧
    (0x2000 ≤ v.toNat → v.toNat < 0x3000 → s.cart.mirroring = .vertical →
      memWrite a b s = .ok 0 { s with ppu := { stepped with vram := s.ppu.vram.write (v.toNat % 0x800) b } }) ∧
    (0x2000 ≤ v.toNat → v.toNat < 0x3000 → s.cart.mirroring = .horizontal →
      memWrite a b s = .ok 0
        { s with
          ppu := { stepped with
            vram := s.ppu.vram.write ((v.toNat - 0x2000) / 0x800 * 0x400 + v.toNat % 0x400) b } }) ∧
    (0x2000 ≤ v.toNat → v.toNat < 0x3000 → s.cart.mirroring = .fourScreen →
      memWrite a b s = .fatal .unsupportedMirroring s) ∧
    (0x3000 ≤ v.toNat → v.toNat < 0x3F00 → memWrite a b s = .fatal (.ppuAddrUnused v) s) ∧
    (0x3F00 ≤ v.toNat →
      memWrite a b s = .ok 0
        { s with
          ppu := { stepped with
            palette := s.ppu.palette.write
              (if 0x10 ≤ v.toNat % 32 ∧ v.toNat % 4 = 0 then v.toNat % 32 - 0x10 else v.toNat % 32) b } })

/-- For every page: if each of the 256 reads, made in turn on the state the byte before left, completes, the write ends
in the state after the last byte and charges OAM_DMA_CYCLES; if read n is fatal, the write is fatal there, the n
bytes before it standing. RAM (0x00 to 0x1F) and PRG (from 0x80): byte i of the page at OAM (oamAddr + i) mod 256,
nothing but OAM changed. Register window (0x20 to 0x3F): under STRICT_WRITE_ONLY_READ fatal at its first byte; else,
where it completes, v has stepped 32 times, vblank is clear, both latches reset, and only OAM and the read buffer
may differ beside. 0x40 to 0x7F: 256 zero bytes, but for page 0x40, whose byte 0x16 is the joypad's when present and
whose byte 0x14 is fatal under STRICT_WRITE_ONLY_READ. That a DMA read faults as any read does is log 19's reading
of R370, and the address a write-only read records is log 14's. [47_ppu_registers.md R370, 47_ppu_registers.md R359,
log 14, log 19] -/
def Obligations.DmaCopiesAPage : Prop :=
  ∀ (page : Byte) (s : State),
    (∀ σ β, σ 0 = s → DmaReads page 256 σ β → memWrite 0x4014 page s = .ok s.cfg.oamDmaCycles (σ 256)) ∧
    (∀ σ β n k t, σ 0 = s → n < 256 → DmaReads page n σ β →
      memRead (hilo page (BitVec.ofNat 8 n)) (σ n) = .fatal k t → memWrite 0x4014 page s = .fatal k t) ∧
    (page.toNat < 0x20 ∨ 0x80 ≤ page.toNat →
      ∃ oam : Memory,
        memWrite 0x4014 page s = .ok s.cfg.oamDmaCycles { s with ppu := { s.ppu with oam := oam } } ∧
        ∀ i : Nat, i < 256 →
          storedByte s (hilo page (BitVec.ofNat 8 i)) = some (oam.read ((s.ppu.oamAddr.toNat + i) % 256))) ∧
    (0x20 ≤ page.toNat → page.toNat < 0x40 → s.cfg.strictWriteOnlyRead = true →
      memWrite 0x4014 page s = .fatal (.writeOnlyRead (hilo page 0)) s) ∧
    (∀ n t, 0x20 ≤ page.toNat → page.toNat < 0x40 → memWrite 0x4014 page s = .ok n t →
      n = s.cfg.oamDmaCycles ∧
      t = { s with
        ppu := { s.ppu with
          v := s.ppu.v + if s.ppu.ctrl.getLsbD 2 then 1024 else 32
          status := s.ppu.status &&& 0x7F
          scrollLatch := .first
          addrLatch := .high
          readBuffer := t.ppu.readBuffer
          oam := t.ppu.oam } }) ∧
    (0x40 ≤ page.toNat → page.toNat < 0x80 →
      (page = 0x40 → s.cfg.joypadPresent = false ∧ s.cfg.strictWriteOnlyRead = false) →
      ∃ oam : Memory,
        memWrite 0x4014 page s = .ok s.cfg.oamDmaCycles { s with ppu := { s.ppu with oam := oam } } ∧
        ∀ i : Nat, i < 256 → oam.read i = 0) ∧
    (page = 0x40 → s.cfg.strictWriteOnlyRead = true →
      ∃ oam : Memory,
        memWrite 0x4014 page s =
          .fatal (.writeOnlyRead 0x4014) { s with ppu := { s.ppu with oam := oam, oamAddr := s.ppu.oamAddr + 20 } } ∧
        ∀ i : Nat, i < 20 → oam.read ((s.ppu.oamAddr.toNat + i) % 256) = 0) ∧
    (page = 0x40 → s.cfg.joypadPresent = true → s.cfg.strictWriteOnlyRead = false →
      ∀ b t, memRead 0x4016 s = .ok b t →
        ∃ oam : Memory,
          memWrite 0x4014 page s = .ok s.cfg.oamDmaCycles { t with ppu := { t.ppu with oam := oam } } ∧
          ∀ i : Nat, i < 256 → oam.read ((s.ppu.oamAddr.toNat + i) % 256) = if i = 0x16 then b else 0)

/-- With JOYPAD_PRESENT: a write sets the strobe from bit 0 and, if set, the index to 0; a read above index 7 returns 1
and changes nothing; below, it returns the button at the index and advances the index unless strobing. Without it a
read returns 0 and a write is ignored. [R471, R472] -/
def Obligations.JoypadShiftsItsButtons : Prop :=
  ∀ (s : State) (b : Byte),
    (s.cfg.joypadPresent = true →
      memWrite 0x4016 b s = .ok 0
        { s with joy := { s.joy with strobe := b.getLsbD 0, index := if b.getLsbD 0 then 0 else s.joy.index } }) ∧
    (s.cfg.joypadPresent = true → 7 < s.joy.index → memRead 0x4016 s = .ok 1 s) ∧
    (s.cfg.joypadPresent = true → s.joy.index ≤ 7 → s.joy.strobe = true →
      memRead 0x4016 s = .ok (if s.joy.buttons.getLsbD s.joy.index then 1 else 0) s) ∧
    (s.cfg.joypadPresent = true → s.joy.index ≤ 7 → s.joy.strobe = false →
      memRead 0x4016 s = .ok (if s.joy.buttons.getLsbD s.joy.index then 1 else 0)
        { s with joy := { s.joy with index := s.joy.index + 1 } }) ∧
    (s.cfg.joypadPresent = false → memRead 0x4016 s = .ok 0 s ∧ memWrite 0x4016 b s = .ok 0 s)

/-- A read that completes leaves the whole state unchanged unless the address is a mirror of 0x2002 or 0x2007 (addr &
0xE007) or is 0x4016 with the joypad present. [20_memory.md R84] -/
def Obligations.ReadsAreIdempotentElsewhere : Prop :=
  ∀ (a : Addr) (s t : State) (b : Byte),
    a &&& 0xE007 ≠ 0x2002 → a &&& 0xE007 ≠ 0x2007 → (a ≠ 0x4016 ∨ s.cfg.joypadPresent = false) →
    memRead a s = .ok b t → t = s

/-- A write below 0x2000 completes; afterwards a read below 0x2000 gives the byte written if the two addresses agree
modulo 0x800, and what it gave before otherwise, with no side effect. [R64] -/
def Obligations.RamReadAfterWrite : Prop :=
  ∀ (a c : Addr) (b : Byte) (s : State), a.toNat < 0x2000 → c.toNat < 0x2000 →
    ∃ t, memWrite a b s = .ok 0 t ∧
      memRead c t = .ok (if a.toNat % 0x800 = c.toNat % 0x800 then b else s.ram.read (c.toNat % 0x800)) t

/-- Push16 writes the high byte at 0x0100 + S and the low byte at the next lower stack byte, wrapping in page 1, and
lowers S by 2, changing nothing else; Pop16 takes the low byte from 0x0100 + S + 1 and the high byte from the next
higher stack byte, wrapping in page 1, and raises S by 2, changing nothing else; Pop16 after Push16 returns the word
and the old S. [R28, R29] -/
def Obligations.StackRoundTrip : Prop :=
  ∀ (w : Addr) (s : State),
    let t := { s with
      ram := (s.ram.write (0x100 + s.sp.toNat) (hiByte w)).write (0x100 + (s.sp - 1).toNat) (loByte w)
      sp := s.sp - 2 }
    push16 w s = .ok () t ∧ pop16 t = .ok w { t with sp := s.sp } ∧
      pop16 s = .ok (hilo (s.ram.read (0x100 + (s.sp + 2).toNat)) (s.ram.read (0x100 + (s.sp + 1).toNat)))
        { s with sp := s.sp + 2 }

/-- From any position in range: reaching scanline 241 dot 1 sets vblank, clears sprite-zero-hit and raises the request
if Control bit 7 is set; leaving scanline 261 dot 340 reaches 0, 0, clears vblank, sprite-zero-hit and the request;
every other advance changes the two counters only. [R391, R393, R394] -/
def Obligations.DotAdvanceAndItsEvents : Prop :=
  ∀ u : Ppu, u.scanline ≤ 261 → u.dot ≤ 340 →
    (u.scanline = 241 → u.dot = 0 → dotAdvance u =
      { u with dot := 1, status := (u.status ||| 0x80) &&& 0xBF, pendingNmi := u.pendingNmi || u.ctrl.getLsbD 7 }) ∧
    (u.scanline = 261 → u.dot = 340 → dotAdvance u =
      { u with scanline := 0, dot := 0, status := u.status &&& 0x3F, pendingNmi := false }) ∧
    (u.dot < 340 → ¬(u.scanline = 241 ∧ u.dot = 0) → dotAdvance u = { u with dot := u.dot + 1 }) ∧
    (u.scanline < 261 → u.dot = 340 → dotAdvance u = { u with scanline := u.scanline + 1, dot := 0 })

/-- From scanline 0 dot 0 with vblank and the request clear: for the first 82181 dots both stay clear; from dot 82182 to
89341 vblank is set and the request is Control bit 7; after 89342 dots the PPU is where it was, with both clear and
nothing else changed but sprite-zero-hit. [48_ppu_timing.md R401, 48_ppu_timing.md R390, 48_ppu_timing.md R391] -/
def Obligations.FrameRaisesVblankOnce : Prop :=
  ∀ u : Ppu, u.scanline = 0 → u.dot = 0 → u.pendingNmi = false → u.status.getLsbD 7 = false →
    (∀ n, n < 82182 → (advanceDots n u).pendingNmi = false ∧ (advanceDots n u).status.getLsbD 7 = false) ∧
    (∀ n, 82182 ≤ n → n < 89342 →
      (advanceDots n u).pendingNmi = u.ctrl.getLsbD 7 ∧ (advanceDots n u).status.getLsbD 7 = true) ∧
    advanceDots 89342 u = { u with status := u.status &&& 0x3F }

/-- From every state Tick(n) adds n to the cycle count and makes 3n dot advances of the PPU, one after another, each
with the events of its position. From a position in range it advances the position by 3n modulo the frame, changes
no other memory or register of the PPU than status, the request and the counters, and emits FrameReady (the model's
field, log 8) exactly when pendingNmi was 0 before and is 1 after; Tick(m) then Tick(n) puts the PPU where Tick(m+n)
does. [48_ppu_timing.md R396, 48_ppu_timing.md R398, 48_ppu_timing.md R392, log 8] -/
def Obligations.TickAdvancesThreeDotsPerCycle : Prop :=
  (∀ (n : Nat) (s : State),
    (tick n s).ppu = Nat.repeat dotAdvance (3 * n) s.ppu ∧ (tick n s).ppu = advanceDots (3 * n) s.ppu ∧
    tick n s =
      { s with
        cycles := s.cycles + n
        ppu := (tick n s).ppu
        frameReady := s.frameReady || (!s.ppu.pendingNmi && (tick n s).ppu.pendingNmi) }) ∧
  (∀ (m n : Nat) (s : State), s.ppu.scanline ≤ 261 → s.ppu.dot ≤ 340 →
    (tick n s).ppu =
      { s.ppu with
        scanline := (s.ppu.scanline * 341 + s.ppu.dot + 3 * n) % 89342 / 341
        dot := (s.ppu.scanline * 341 + s.ppu.dot + 3 * n) % 89342 % 341
        status := (tick n s).ppu.status
        pendingNmi := (tick n s).ppu.pendingNmi } ∧
    (tick n (tick m s)).ppu = (tick (m + n) s).ppu ∧ (tick n (tick m s)).cycles = (tick (m + n) s).cycles)

/-- For ldaImm, ldaZp, ldaZpx, ldaAbs, ldaAbsx, ldaAbsy, ldaIndx, ldaIndy, ldxImm, ldxZp, ldxZpy, ldxAbs, ldxAbsy,
ldyImm, ldyZp, ldyZpx, ldyAbs, ldyAbsx, laxZp, laxZpy, laxAbs, laxAbsy, laxIndx, laxIndy: with the operand readable,
the next state has the register (for LAX both A and X) equal to the byte, Z and N of it, PC past the instruction,
the cycles of R132 or R133 (one more on a crossed page where marked), and no other change; a fatal operand access
gives the Faulted state. LAX is the spec's ASSUMED definition (D31), which the model presumes (log 11). The cycle
counts depend on the replaceable table of R510 (log 25). [40_load_store_transfer.md R160, 40_load_store_transfer.md
R161, 40_load_store_transfer.md R162, 45_undocumented.md section 1, log 11, log 25] -/
def Obligations.LoadsCompleteWithTheirByte : Prop :=
  ∀ (b : Byte) (w : Addr),
    Reads (.ldaImm b) (.imm b) 2 2 false (fun m s => { s with a := m, p := zn s.p m }) ∧
    Reads (.ldaZp b) (.mem (.zp b)) 2 3 false (fun m s => { s with a := m, p := zn s.p m }) ∧
    Reads (.ldaZpx b) (.mem (.zpx b)) 2 4 false (fun m s => { s with a := m, p := zn s.p m }) ∧
    Reads (.ldaAbs w) (.mem (.abs w)) 3 4 false (fun m s => { s with a := m, p := zn s.p m }) ∧
    Reads (.ldaAbsx w) (.mem (.absx w)) 3 4 true (fun m s => { s with a := m, p := zn s.p m }) ∧
    Reads (.ldaAbsy w) (.mem (.absy w)) 3 4 true (fun m s => { s with a := m, p := zn s.p m }) ∧
    Reads (.ldaIndx b) (.mem (.indx b)) 2 6 false (fun m s => { s with a := m, p := zn s.p m }) ∧
    Reads (.ldaIndy b) (.mem (.indy b)) 2 5 true (fun m s => { s with a := m, p := zn s.p m }) ∧
    Reads (.ldxImm b) (.imm b) 2 2 false (fun m s => { s with x := m, p := zn s.p m }) ∧
    Reads (.ldxZp b) (.mem (.zp b)) 2 3 false (fun m s => { s with x := m, p := zn s.p m }) ∧
    Reads (.ldxZpy b) (.mem (.zpy b)) 2 4 false (fun m s => { s with x := m, p := zn s.p m }) ∧
    Reads (.ldxAbs w) (.mem (.abs w)) 3 4 false (fun m s => { s with x := m, p := zn s.p m }) ∧
    Reads (.ldxAbsy w) (.mem (.absy w)) 3 4 true (fun m s => { s with x := m, p := zn s.p m }) ∧
    Reads (.ldyImm b) (.imm b) 2 2 false (fun m s => { s with y := m, p := zn s.p m }) ∧
    Reads (.ldyZp b) (.mem (.zp b)) 2 3 false (fun m s => { s with y := m, p := zn s.p m }) ∧
    Reads (.ldyZpx b) (.mem (.zpx b)) 2 4 false (fun m s => { s with y := m, p := zn s.p m }) ∧
    Reads (.ldyAbs w) (.mem (.abs w)) 3 4 false (fun m s => { s with y := m, p := zn s.p m }) ∧
    Reads (.ldyAbsx w) (.mem (.absx w)) 3 4 true (fun m s => { s with y := m, p := zn s.p m }) ∧
    Reads (.laxZp b) (.mem (.zp b)) 2 3 false (fun m s => { s with a := m, x := m, p := zn s.p m }) ∧
    Reads (.laxZpy b) (.mem (.zpy b)) 2 4 false (fun m s => { s with a := m, x := m, p := zn s.p m }) ∧
    Reads (.laxAbs w) (.mem (.abs w)) 3 4 false (fun m s => { s with a := m, x := m, p := zn s.p m }) ∧
    Reads (.laxAbsy w) (.mem (.absy w)) 3 4 true (fun m s => { s with a := m, x := m, p := zn s.p m }) ∧
    Reads (.laxIndx b) (.mem (.indx b)) 2 6 false (fun m s => { s with a := m, x := m, p := zn s.p m }) ∧
    Reads (.laxIndy b) (.mem (.indy b)) 2 5 true (fun m s => { s with a := m, x := m, p := zn s.p m })

/-- For staZp, staZpx, staAbs, staAbsx, staAbsy, staIndx, staIndy, stxZp, stxZpy, stxAbs, styZp, styZpx, styAbs, saxZp,
saxZpy, saxAbs, saxIndx: when the write at the effective address completes, the next state is the state after the
write with PC past the instruction and the cycles of R132 or R133 (and what an OAM DMA charges); no register or flag
changes; a fatal write gives the Faulted state. SAX is the spec's ASSUMED definition (D31), which the model presumes
(log 11). The cycle counts depend on the replaceable table of R510 (log 25). [40_load_store_transfer.md R163,
40_load_store_transfer.md R164, 40_load_store_transfer.md R165, 45_undocumented.md section 1, log 11, log 25] -/
def Obligations.StoresCompleteWithTheirRegister : Prop :=
  ∀ (b : Byte) (w : Addr),
    Stores (.staZp b) (.zp b) 2 3 (·.a) ∧
    Stores (.staZpx b) (.zpx b) 2 4 (·.a) ∧
    Stores (.staAbs w) (.abs w) 3 4 (·.a) ∧
    Stores (.staAbsx w) (.absx w) 3 5 (·.a) ∧
    Stores (.staAbsy w) (.absy w) 3 5 (·.a) ∧
    Stores (.staIndx b) (.indx b) 2 6 (·.a) ∧
    Stores (.staIndy b) (.indy b) 2 6 (·.a) ∧
    Stores (.stxZp b) (.zp b) 2 3 (·.x) ∧
    Stores (.stxZpy b) (.zpy b) 2 4 (·.x) ∧
    Stores (.stxAbs w) (.abs w) 3 4 (·.x) ∧
    Stores (.styZp b) (.zp b) 2 3 (·.y) ∧
    Stores (.styZpx b) (.zpx b) 2 4 (·.y) ∧
    Stores (.styAbs w) (.abs w) 3 4 (·.y) ∧
    Stores (.saxZp b) (.zp b) 2 3 (fun s => s.a &&& s.x) ∧
    Stores (.saxZpy b) (.zpy b) 2 4 (fun s => s.a &&& s.x) ∧
    Stores (.saxAbs w) (.abs w) 3 4 (fun s => s.a &&& s.x) ∧
    Stores (.saxIndx b) (.indx b) 2 6 (fun s => s.a &&& s.x)

/-- For tax, tay, txa, tya, tsx, txs on every state: the exact next state, 2 cycles. The cycle counts depend on the
replaceable table of R510 (log 25). [R166, R167, R168, R169, R170, R171] -/
def Obligations.TransfersCopyTheirRegister : Prop :=
  Registers .tax 1 2 (fun s => { s with x := s.a, p := zn s.p s.a }) ∧
  Registers .tay 1 2 (fun s => { s with y := s.a, p := zn s.p s.a }) ∧
  Registers .txa 1 2 (fun s => { s with a := s.x, p := zn s.p s.x }) ∧
  Registers .tya 1 2 (fun s => { s with a := s.y, p := zn s.p s.y }) ∧
  Registers .tsx 1 2 (fun s => { s with x := s.sp, p := zn s.p s.sp }) ∧
  Registers .txs 1 2 (fun s => { s with sp := s.x })

/-- For adcImm, adcZp, adcZpx, adcAbs, adcAbsx, adcAbsy, adcIndx, adcIndy, sbcImm, sbcZp, sbcZpx, sbcAbs, sbcAbsx,
sbcAbsy, sbcIndx, sbcIndy, sbcImmEB: A is the sum of A, the byte (for SBC its complement) and C modulo 256, C the
carry out, V set exactly when the signed sum leaves -128..127, Z and N of the result, D ignored; cycles and PC as in
R132, R133; nothing else changes. *SBC (sbcImmEB) is the spec's ASSUMED definition (D31), which the model presumes
(log 11). The cycle counts depend on the replaceable table of R510 (log 25). [41_arithmetic_logic.md R190,
41_arithmetic_logic.md R191, 41_arithmetic_logic.md R192, 45_undocumented.md section 3, log 11, log 25] -/
def Obligations.AddAndSubtract : Prop :=
  ∀ (b : Byte) (w : Addr),
    Reads (.adcImm b) (.imm b) 2 2 false added ∧
    Reads (.adcZp b) (.mem (.zp b)) 2 3 false added ∧
    Reads (.adcZpx b) (.mem (.zpx b)) 2 4 false added ∧
    Reads (.adcAbs w) (.mem (.abs w)) 3 4 false added ∧
    Reads (.adcAbsx w) (.mem (.absx w)) 3 4 true added ∧
    Reads (.adcAbsy w) (.mem (.absy w)) 3 4 true added ∧
    Reads (.adcIndx b) (.mem (.indx b)) 2 6 false added ∧
    Reads (.adcIndy b) (.mem (.indy b)) 2 5 true added ∧
    Reads (.sbcImm b) (.imm b) 2 2 false (fun m s => added (255 - m) s) ∧
    Reads (.sbcZp b) (.mem (.zp b)) 2 3 false (fun m s => added (255 - m) s) ∧
    Reads (.sbcZpx b) (.mem (.zpx b)) 2 4 false (fun m s => added (255 - m) s) ∧
    Reads (.sbcAbs w) (.mem (.abs w)) 3 4 false (fun m s => added (255 - m) s) ∧
    Reads (.sbcAbsx w) (.mem (.absx w)) 3 4 true (fun m s => added (255 - m) s) ∧
    Reads (.sbcAbsy w) (.mem (.absy w)) 3 4 true (fun m s => added (255 - m) s) ∧
    Reads (.sbcIndx b) (.mem (.indx b)) 2 6 false (fun m s => added (255 - m) s) ∧
    Reads (.sbcIndy b) (.mem (.indy b)) 2 5 true (fun m s => added (255 - m) s) ∧
    Reads (.sbcImmEB b) (.imm b) 2 2 false (fun m s => added (255 - m) s)

/-- For andImm, andZp, andZpx, andAbs, andAbsx, andAbsy, andIndx, andIndy, oraImm, oraZp, oraZpx, oraAbs, oraAbsx,
oraAbsy, oraIndx, oraIndy, eorImm, eorZp, eorZpx, eorAbs, eorAbsx, eorAbsy, eorIndx, eorIndy, bitZp, bitAbs: the
exact next state when the operand is readable, with the cycles of R132; C (and for AND, ORA, EOR also V) is
untouched. The cycle counts depend on the replaceable table of R510 (log 25). [R193, R194, R195, R196] -/
def Obligations.LogicAndBitTest : Prop :=
  ∀ (b : Byte) (w : Addr),
    Reads (.andImm b) (.imm b) 2 2 false (fun m s => loadedA (s.a &&& m) s) ∧
    Reads (.andZp b) (.mem (.zp b)) 2 3 false (fun m s => loadedA (s.a &&& m) s) ∧
    Reads (.andZpx b) (.mem (.zpx b)) 2 4 false (fun m s => loadedA (s.a &&& m) s) ∧
    Reads (.andAbs w) (.mem (.abs w)) 3 4 false (fun m s => loadedA (s.a &&& m) s) ∧
    Reads (.andAbsx w) (.mem (.absx w)) 3 4 true (fun m s => loadedA (s.a &&& m) s) ∧
    Reads (.andAbsy w) (.mem (.absy w)) 3 4 true (fun m s => loadedA (s.a &&& m) s) ∧
    Reads (.andIndx b) (.mem (.indx b)) 2 6 false (fun m s => loadedA (s.a &&& m) s) ∧
    Reads (.andIndy b) (.mem (.indy b)) 2 5 true (fun m s => loadedA (s.a &&& m) s) ∧
    Reads (.oraImm b) (.imm b) 2 2 false (fun m s => loadedA (s.a ||| m) s) ∧
    Reads (.oraZp b) (.mem (.zp b)) 2 3 false (fun m s => loadedA (s.a ||| m) s) ∧
    Reads (.oraZpx b) (.mem (.zpx b)) 2 4 false (fun m s => loadedA (s.a ||| m) s) ∧
    Reads (.oraAbs w) (.mem (.abs w)) 3 4 false (fun m s => loadedA (s.a ||| m) s) ∧
    Reads (.oraAbsx w) (.mem (.absx w)) 3 4 true (fun m s => loadedA (s.a ||| m) s) ∧
    Reads (.oraAbsy w) (.mem (.absy w)) 3 4 true (fun m s => loadedA (s.a ||| m) s) ∧
    Reads (.oraIndx b) (.mem (.indx b)) 2 6 false (fun m s => loadedA (s.a ||| m) s) ∧
    Reads (.oraIndy b) (.mem (.indy b)) 2 5 true (fun m s => loadedA (s.a ||| m) s) ∧
    Reads (.eorImm b) (.imm b) 2 2 false (fun m s => loadedA (s.a ^^^ m) s) ∧
    Reads (.eorZp b) (.mem (.zp b)) 2 3 false (fun m s => loadedA (s.a ^^^ m) s) ∧
    Reads (.eorZpx b) (.mem (.zpx b)) 2 4 false (fun m s => loadedA (s.a ^^^ m) s) ∧
    Reads (.eorAbs w) (.mem (.abs w)) 3 4 false (fun m s => loadedA (s.a ^^^ m) s) ∧
    Reads (.eorAbsx w) (.mem (.absx w)) 3 4 true (fun m s => loadedA (s.a ^^^ m) s) ∧
    Reads (.eorAbsy w) (.mem (.absy w)) 3 4 true (fun m s => loadedA (s.a ^^^ m) s) ∧
    Reads (.eorIndx b) (.mem (.indx b)) 2 6 false (fun m s => loadedA (s.a ^^^ m) s) ∧
    Reads (.eorIndy b) (.mem (.indy b)) 2 5 true (fun m s => loadedA (s.a ^^^ m) s) ∧
    Reads (.bitZp b) (.mem (.zp b)) 2 3 false bitTested ∧
    Reads (.bitAbs w) (.mem (.abs w)) 3 4 false bitTested

/-- For cmpImm, cmpZp, cmpZpx, cmpAbs, cmpAbsx, cmpAbsy, cmpIndx, cmpIndy, cpxImm, cpxZp, cpxAbs, cpyImm, cpyZp, cpyAbs:
C is set exactly when the byte is at most the register, Z and N are of the wrapped difference, V and every register
stay; cycles of R132. The cycle counts depend on the replaceable table of R510 (log 25). [R197, R198, R199, R200] -/
def Obligations.ComparesSetCarryZeroNegative : Prop :=
  ∀ (b : Byte) (w : Addr),
    Reads (.cmpImm b) (.imm b) 2 2 false (fun m s => compared s.a m s) ∧
    Reads (.cmpZp b) (.mem (.zp b)) 2 3 false (fun m s => compared s.a m s) ∧
    Reads (.cmpZpx b) (.mem (.zpx b)) 2 4 false (fun m s => compared s.a m s) ∧
    Reads (.cmpAbs w) (.mem (.abs w)) 3 4 false (fun m s => compared s.a m s) ∧
    Reads (.cmpAbsx w) (.mem (.absx w)) 3 4 true (fun m s => compared s.a m s) ∧
    Reads (.cmpAbsy w) (.mem (.absy w)) 3 4 true (fun m s => compared s.a m s) ∧
    Reads (.cmpIndx b) (.mem (.indx b)) 2 6 false (fun m s => compared s.a m s) ∧
    Reads (.cmpIndy b) (.mem (.indy b)) 2 5 true (fun m s => compared s.a m s) ∧
    Reads (.cpxImm b) (.imm b) 2 2 false (fun m s => compared s.x m s) ∧
    Reads (.cpxZp b) (.mem (.zp b)) 2 3 false (fun m s => compared s.x m s) ∧
    Reads (.cpxAbs w) (.mem (.abs w)) 3 4 false (fun m s => compared s.x m s) ∧
    Reads (.cpyImm b) (.imm b) 2 2 false (fun m s => compared s.y m s) ∧
    Reads (.cpyZp b) (.mem (.zp b)) 2 3 false (fun m s => compared s.y m s) ∧
    Reads (.cpyAbs w) (.mem (.abs w)) 3 4 false (fun m s => compared s.y m s)

/-- For incZp, incZpx, incAbs, incAbsx, decZp, decZpx, decAbs, decAbsx: one read then one write of the effective
address, Z and N of the result, no page-cross cycle, a fatal access giving the Faulted state with P unchanged. For
inx, iny, dex, dey: the exact next state. The cycle counts depend on the replaceable table of R510 (log 25). [R201,
R202, R203, R204, R205, R206] -/
def Obligations.IncrementsAndDecrements : Prop :=
  ∀ (b : Byte) (w : Addr),
    Modifies (.incZp b) (.zp b) 2 5 (fun m s => (m + 1, s)) flagged ∧
    Modifies (.incZpx b) (.zpx b) 2 6 (fun m s => (m + 1, s)) flagged ∧
    Modifies (.incAbs w) (.abs w) 3 6 (fun m s => (m + 1, s)) flagged ∧
    Modifies (.incAbsx w) (.absx w) 3 7 (fun m s => (m + 1, s)) flagged ∧
    Modifies (.decZp b) (.zp b) 2 5 (fun m s => (m - 1, s)) flagged ∧
    Modifies (.decZpx b) (.zpx b) 2 6 (fun m s => (m - 1, s)) flagged ∧
    Modifies (.decAbs w) (.abs w) 3 6 (fun m s => (m - 1, s)) flagged ∧
    Modifies (.decAbsx w) (.absx w) 3 7 (fun m s => (m - 1, s)) flagged ∧
    Registers .inx 1 2 (fun s => { s with x := s.x + 1, p := zn s.p (s.x + 1) }) ∧
    Registers .iny 1 2 (fun s => { s with y := s.y + 1, p := zn s.p (s.y + 1) }) ∧
    Registers .dex 1 2 (fun s => { s with x := s.x - 1, p := zn s.p (s.x - 1) }) ∧
    Registers .dey 1 2 (fun s => { s with y := s.y - 1, p := zn s.p (s.y - 1) })

/-- For aslAcc, aslZp, aslZpx, aslAbs, aslAbsx, lsrAcc, lsrZp, lsrZpx, lsrAbs, lsrAbsx, rolAcc, rolZp, rolZpx, rolAbs,
rolAbsx, rorAcc, rorZp, rorZpx, rorAbs, rorAbsx: C receives the bit shifted out, the rotates bring the old carry in,
Z and N follow the result in both forms, V stays; memory forms are one read and one write of one address; a fatal
access gives the Faulted state, in which, if it was the write, C is old or new (R449 leaves open which). The cycle
counts depend on the replaceable table of R510 (log 25). [R230, R231, R232, R233, R234] -/
def Obligations.ShiftsAndRotates : Prop :=
  ∀ (b : Byte) (w : Addr),
    Modifies (.aslZp b) (.zp b) 2 5 shiftedLeft flagged ∧
    Modifies (.aslZpx b) (.zpx b) 2 6 shiftedLeft flagged ∧
    Modifies (.aslAbs w) (.abs w) 3 6 shiftedLeft flagged ∧
    Modifies (.aslAbsx w) (.absx w) 3 7 shiftedLeft flagged ∧
    Modifies (.lsrZp b) (.zp b) 2 5 shiftedRight flagged ∧
    Modifies (.lsrZpx b) (.zpx b) 2 6 shiftedRight flagged ∧
    Modifies (.lsrAbs w) (.abs w) 3 6 shiftedRight flagged ∧
    Modifies (.lsrAbsx w) (.absx w) 3 7 shiftedRight flagged ∧
    Modifies (.rolZp b) (.zp b) 2 5 rotatedLeft flagged ∧
    Modifies (.rolZpx b) (.zpx b) 2 6 rotatedLeft flagged ∧
    Modifies (.rolAbs w) (.abs w) 3 6 rotatedLeft flagged ∧
    Modifies (.rolAbsx w) (.absx w) 3 7 rotatedLeft flagged ∧
    Modifies (.rorZp b) (.zp b) 2 5 rotatedRight flagged ∧
    Modifies (.rorZpx b) (.zpx b) 2 6 rotatedRight flagged ∧
    Modifies (.rorAbs w) (.abs w) 3 6 rotatedRight flagged ∧
    Modifies (.rorAbsx w) (.absx w) 3 7 rotatedRight flagged ∧
    Registers .aslAcc 1 2 (accumulatorBy shiftedLeft) ∧
    Registers .lsrAcc 1 2 (accumulatorBy shiftedRight) ∧
    Registers .rolAcc 1 2 (accumulatorBy rotatedLeft) ∧
    Registers .rorAcc 1 2 (accumulatorBy rotatedRight)

/-- For bpl, bmi, bvc, bvs, bcc, bcs, bne, beq on every state and displacement: not taken, PC is past the branch at 2
cycles; taken, PC is that plus the signed displacement modulo 65536 at 3 cycles, 4 when the target is on another
page than the next instruction. Nothing else changes. The cycle counts depend on the replaceable table of R510 (log
25). [R251, R252, R253, R254, R255, R256, R257, R258, R259] -/
def Obligations.BranchesFollowTheirFlag : Prop :=
  ∀ (b : Byte),
    BranchesIf (.bpl b) b (fun s => !getFlag s.p .n) ∧
    BranchesIf (.bmi b) b (fun s => getFlag s.p .n) ∧
    BranchesIf (.bvc b) b (fun s => !getFlag s.p .v) ∧
    BranchesIf (.bvs b) b (fun s => getFlag s.p .v) ∧
    BranchesIf (.bcc b) b (fun s => !getFlag s.p .c) ∧
    BranchesIf (.bcs b) b (fun s => getFlag s.p .c) ∧
    BranchesIf (.bne b) b (fun s => !getFlag s.p .z) ∧
    BranchesIf (.beq b) b (fun s => getFlag s.p .z)

/-- For jmpAbs, jmpInd, jsrAbs, rts, rti on every state: JMP absolute; JMP indirect with the pointer's high byte from
the same page (whenever the two reads complete; a fatal read gives the Faulted state); JSR pushes PC + 2 high byte
first; RTS pops and adds one; RTI pops P (Break1 cleared, Break2 set) then PC. Cycles 3, 5, 6, 6, 6. The cycle
counts depend on the replaceable table of R510 (log 25). [R260, R261, R262, R263, R264] -/
def Obligations.JumpsCallsAndReturns : Prop :=
  ∀ (w : Addr) (s : State),
    exec (.jmpAbs w) s = .next (tick 3 { s with pc := w }) ∧
    (∀ lo s1 hi s2, memRead w s = .ok lo s1 → memRead (hilo (hiByte w) (loByte w + 1)) s1 = .ok hi s2 →
      exec (.jmpInd w) s = .next (tick 5 { s2 with pc := hilo hi lo })) ∧
    (∀ k s1, memRead w s = .fatal k s1 → exec (.jmpInd w) s = .next { s1 with run := .faulted k }) ∧
    (∀ lo s1 k s2, memRead w s = .ok lo s1 → memRead (hilo (hiByte w) (loByte w + 1)) s1 = .fatal k s2 →
      exec (.jmpInd w) s = .next { s2 with run := .faulted k }) ∧
    exec (.jsrAbs w) s = .next (tick 6
      { s with
        ram := (s.ram.write (0x100 + s.sp.toNat) (hiByte (s.pc + 2))).write
          (0x100 + (s.sp - 1).toNat) (loByte (s.pc + 2))
        sp := s.sp - 2
        pc := w }) ∧
    exec .rts s = .next (tick 6
      { s with
        sp := s.sp + 2
        pc := hilo (s.ram.read (0x100 + (s.sp + 2).toNat)) (s.ram.read (0x100 + (s.sp + 1).toNat)) + 1 }) ∧
    exec .rti s = .next (tick 6
      { s with
        sp := s.sp + 3
        p := (s.ram.read (0x100 + (s.sp + 1).toNat) &&& 0xEF) ||| 0x20
        pc := hilo (s.ram.read (0x100 + (s.sp + 3).toNat)) (s.ram.read (0x100 + (s.sp + 2).toNat)) })

/-- For pha, php, pla, plp on every state, S = 0x00 and 0xFF included: the exact next state. PHP pushes P with both
Break bits 1 and leaves P; PLA sets Z and N; PLP clears Break1 and sets Break2. Cycles 3, 3, 4, 4. The cycle counts
depend on the replaceable table of R510 (log 25). [R281, R282, R283, R284] -/
def Obligations.StackInstructions : Prop :=
  Registers .pha 1 3 (fun s => { s with ram := s.ram.write (0x100 + s.sp.toNat) s.a, sp := s.sp - 1 }) ∧
  Registers .php 1 3 (fun s => { s with ram := s.ram.write (0x100 + s.sp.toNat) (s.p ||| 0x30), sp := s.sp - 1 }) ∧
  Registers .pla 1 4 (fun s =>
    let m := s.ram.read (0x100 + (s.sp + 1).toNat)
    { s with a := m, p := zn s.p m, sp := s.sp + 1 }) ∧
  Registers .plp 1 4 (fun s =>
    { s with p := (s.ram.read (0x100 + (s.sp + 1).toNat) &&& 0xEF) ||| 0x20, sp := s.sp + 1 })

/-- For clc, sec, cli, sei, cld, sed, clv, nop on every state: the exact next state. The cycle counts depend on the
replaceable table of R510 (log 25). [R285, R286, R287, R288, R289, R290, R291, R292] -/
def Obligations.FlagInstructionsAndNop : Prop :=
  Registers .clc 1 2 (fun s => { s with p := putFlag s.p .c false }) ∧
  Registers .sec 1 2 (fun s => { s with p := putFlag s.p .c true }) ∧
  Registers .cli 1 2 (fun s => { s with p := putFlag s.p .i false }) ∧
  Registers .sei 1 2 (fun s => { s with p := putFlag s.p .i true }) ∧
  Registers .cld 1 2 (fun s => { s with p := putFlag s.p .d false }) ∧
  Registers .sed 1 2 (fun s => { s with p := putFlag s.p .d true }) ∧
  Registers .clv 1 2 (fun s => { s with p := putFlag s.p .v false }) ∧
  Registers .nop 1 2 (fun s => s)

/-- For dcpZp, dcpZpx, dcpAbs, dcpAbsx, dcpAbsy, dcpIndx, dcpIndy, isbZp, isbZpx, isbAbs, isbAbsx, isbAbsy, isbIndx,
isbIndy, sloZp, sloZpx, sloAbs, sloAbsx, sloAbsy, sloIndx, sloIndy, rlaZp, rlaZpx, rlaAbs, rlaAbsx, rlaAbsy,
rlaIndx, rlaIndy, sreZp, sreZpx, sreAbs, sreAbsx, sreAbsy, sreIndx, sreIndy, rraZp, rraZpx, rraAbs, rraAbsx,
rraAbsy, rraIndx, rraIndy: one read and one write of the effective address, then the compare, subtraction, or, and,
exclusive or, or addition with the byte written (RRA with the rotate's carry); 5 to 8 cycles, never a page-cross
cycle; a fatal access gives the Faulted state, in which, if it was the write, C is old or new (R449 leaves open
which). The definitions are the spec's ASSUMED ones (D31), which the model presumes (log 11). The cycle counts
depend on the replaceable table of R510 (log 25). [45_undocumented.md section 2, log 11, log 25] -/
def Obligations.CombinedReadModifyWrites : Prop :=
  ∀ (b : Byte) (w : Addr),
    Modifies (.dcpZp b) (.zp b) 2 5 (fun m s => (m - 1, s)) (fun r s => compared s.a r s) ∧
    Modifies (.dcpZpx b) (.zpx b) 2 6 (fun m s => (m - 1, s)) (fun r s => compared s.a r s) ∧
    Modifies (.dcpAbs w) (.abs w) 3 6 (fun m s => (m - 1, s)) (fun r s => compared s.a r s) ∧
    Modifies (.dcpAbsx w) (.absx w) 3 7 (fun m s => (m - 1, s)) (fun r s => compared s.a r s) ∧
    Modifies (.dcpAbsy w) (.absy w) 3 7 (fun m s => (m - 1, s)) (fun r s => compared s.a r s) ∧
    Modifies (.dcpIndx b) (.indx b) 2 8 (fun m s => (m - 1, s)) (fun r s => compared s.a r s) ∧
    Modifies (.dcpIndy b) (.indy b) 2 8 (fun m s => (m - 1, s)) (fun r s => compared s.a r s) ∧
    Modifies (.isbZp b) (.zp b) 2 5 (fun m s => (m + 1, s)) (fun r s => added (255 - r) s) ∧
    Modifies (.isbZpx b) (.zpx b) 2 6 (fun m s => (m + 1, s)) (fun r s => added (255 - r) s) ∧
    Modifies (.isbAbs w) (.abs w) 3 6 (fun m s => (m + 1, s)) (fun r s => added (255 - r) s) ∧
    Modifies (.isbAbsx w) (.absx w) 3 7 (fun m s => (m + 1, s)) (fun r s => added (255 - r) s) ∧
    Modifies (.isbAbsy w) (.absy w) 3 7 (fun m s => (m + 1, s)) (fun r s => added (255 - r) s) ∧
    Modifies (.isbIndx b) (.indx b) 2 8 (fun m s => (m + 1, s)) (fun r s => added (255 - r) s) ∧
    Modifies (.isbIndy b) (.indy b) 2 8 (fun m s => (m + 1, s)) (fun r s => added (255 - r) s) ∧
    Modifies (.sloZp b) (.zp b) 2 5 shiftedLeft (fun m s => loadedA (s.a ||| m) s) ∧
    Modifies (.sloZpx b) (.zpx b) 2 6 shiftedLeft (fun m s => loadedA (s.a ||| m) s) ∧
    Modifies (.sloAbs w) (.abs w) 3 6 shiftedLeft (fun m s => loadedA (s.a ||| m) s) ∧
    Modifies (.sloAbsx w) (.absx w) 3 7 shiftedLeft (fun m s => loadedA (s.a ||| m) s) ∧
    Modifies (.sloAbsy w) (.absy w) 3 7 shiftedLeft (fun m s => loadedA (s.a ||| m) s) ∧
    Modifies (.sloIndx b) (.indx b) 2 8 shiftedLeft (fun m s => loadedA (s.a ||| m) s) ∧
    Modifies (.sloIndy b) (.indy b) 2 8 shiftedLeft (fun m s => loadedA (s.a ||| m) s) ∧
    Modifies (.rlaZp b) (.zp b) 2 5 rotatedLeft (fun m s => loadedA (s.a &&& m) s) ∧
    Modifies (.rlaZpx b) (.zpx b) 2 6 rotatedLeft (fun m s => loadedA (s.a &&& m) s) ∧
    Modifies (.rlaAbs w) (.abs w) 3 6 rotatedLeft (fun m s => loadedA (s.a &&& m) s) ∧
    Modifies (.rlaAbsx w) (.absx w) 3 7 rotatedLeft (fun m s => loadedA (s.a &&& m) s) ∧
    Modifies (.rlaAbsy w) (.absy w) 3 7 rotatedLeft (fun m s => loadedA (s.a &&& m) s) ∧
    Modifies (.rlaIndx b) (.indx b) 2 8 rotatedLeft (fun m s => loadedA (s.a &&& m) s) ∧
    Modifies (.rlaIndy b) (.indy b) 2 8 rotatedLeft (fun m s => loadedA (s.a &&& m) s) ∧
    Modifies (.sreZp b) (.zp b) 2 5 shiftedRight (fun m s => loadedA (s.a ^^^ m) s) ∧
    Modifies (.sreZpx b) (.zpx b) 2 6 shiftedRight (fun m s => loadedA (s.a ^^^ m) s) ∧
    Modifies (.sreAbs w) (.abs w) 3 6 shiftedRight (fun m s => loadedA (s.a ^^^ m) s) ∧
    Modifies (.sreAbsx w) (.absx w) 3 7 shiftedRight (fun m s => loadedA (s.a ^^^ m) s) ∧
    Modifies (.sreAbsy w) (.absy w) 3 7 shiftedRight (fun m s => loadedA (s.a ^^^ m) s) ∧
    Modifies (.sreIndx b) (.indx b) 2 8 shiftedRight (fun m s => loadedA (s.a ^^^ m) s) ∧
    Modifies (.sreIndy b) (.indy b) 2 8 shiftedRight (fun m s => loadedA (s.a ^^^ m) s) ∧
    Modifies (.rraZp b) (.zp b) 2 5 rotatedRight added ∧
    Modifies (.rraZpx b) (.zpx b) 2 6 rotatedRight added ∧
    Modifies (.rraAbs w) (.abs w) 3 6 rotatedRight added ∧
    Modifies (.rraAbsx w) (.absx w) 3 7 rotatedRight added ∧
    Modifies (.rraAbsy w) (.absy w) 3 7 rotatedRight added ∧
    Modifies (.rraIndx b) (.indx b) 2 8 rotatedRight added ∧
    Modifies (.rraIndy b) (.indy b) 2 8 rotatedRight added

/-- For ancImm0B, ancImm2B, alrImm, arrImm, axsImm, lasAbsy: the exact next state when the operand is readable: results,
C, V, Z, N, and for LAS the stack pointer; 2 cycles, LAS 4 and one more on a crossed page. The definitions are the
spec's ASSUMED ones (D31), which the model presumes (log 11). The cycle counts depend on the replaceable table of
R510 (log 25). [45_undocumented.md section 3, 45_undocumented.md section 4, log 11, log 25] -/
def Obligations.UndocumentedImmediatesAndLas : Prop :=
  ∀ (b : Byte) (w : Addr),
    Reads (.ancImm0B b) (.imm b) 2 2 false anced ∧
    Reads (.ancImm2B b) (.imm b) 2 2 false anced ∧
    Reads (.alrImm b) (.imm b) 2 2 false alred ∧
    Reads (.arrImm b) (.imm b) 2 2 false arred ∧
    Reads (.axsImm b) (.imm b) 2 2 false axsed ∧
    Reads (.lasAbsy w) (.mem (.absy w)) 3 4 true lased

/-- For nopImm80, nopImm82, nopImm89, nopImmC2, nopImmE2, nopZp04, nopZp44, nopZp64, nopZpx14, nopZpx34, nopZpx54,
nopZpx74, nopZpxD4, nopZpxF4, nopAbs0C, nopAbsx1C, nopAbsx3C, nopAbsx5C, nopAbsx7C, nopAbsxDC, nopAbsxFC: with the
operand readable the next state is the state after that read (device side effects included) with PC past the
instruction and 2, 3 or 4 cycles, one more for absx on a crossed page; a fatal read gives the Faulted state. That
these bytes execute and read their operand is the spec's ASSUMED definition (D31), which the model presumes (log
11). The cycle counts depend on the replaceable table of R510 (log 25). [45_undocumented.md section 5, log 11, log
25] -/
def Obligations.UndocumentedNopsReadAndDiscard : Prop :=
  ∀ (b : Byte) (w : Addr),
    Reads (.nopImm80 b) (.imm b) 2 2 false (fun _ s => s) ∧
    Reads (.nopImm82 b) (.imm b) 2 2 false (fun _ s => s) ∧
    Reads (.nopImm89 b) (.imm b) 2 2 false (fun _ s => s) ∧
    Reads (.nopImmC2 b) (.imm b) 2 2 false (fun _ s => s) ∧
    Reads (.nopImmE2 b) (.imm b) 2 2 false (fun _ s => s) ∧
    Reads (.nopZp04 b) (.mem (.zp b)) 2 3 false (fun _ s => s) ∧
    Reads (.nopZp44 b) (.mem (.zp b)) 2 3 false (fun _ s => s) ∧
    Reads (.nopZp64 b) (.mem (.zp b)) 2 3 false (fun _ s => s) ∧
    Reads (.nopZpx14 b) (.mem (.zpx b)) 2 4 false (fun _ s => s) ∧
    Reads (.nopZpx34 b) (.mem (.zpx b)) 2 4 false (fun _ s => s) ∧
    Reads (.nopZpx54 b) (.mem (.zpx b)) 2 4 false (fun _ s => s) ∧
    Reads (.nopZpx74 b) (.mem (.zpx b)) 2 4 false (fun _ s => s) ∧
    Reads (.nopZpxD4 b) (.mem (.zpx b)) 2 4 false (fun _ s => s) ∧
    Reads (.nopZpxF4 b) (.mem (.zpx b)) 2 4 false (fun _ s => s) ∧
    Reads (.nopAbs0C w) (.mem (.abs w)) 3 4 false (fun _ s => s) ∧
    Reads (.nopAbsx1C w) (.mem (.absx w)) 3 4 true (fun _ s => s) ∧
    Reads (.nopAbsx3C w) (.mem (.absx w)) 3 4 true (fun _ s => s) ∧
    Reads (.nopAbsx5C w) (.mem (.absx w)) 3 4 true (fun _ s => s) ∧
    Reads (.nopAbsx7C w) (.mem (.absx w)) 3 4 true (fun _ s => s) ∧
    Reads (.nopAbsxDC w) (.mem (.absx w)) 3 4 true (fun _ s => s) ∧
    Reads (.nopAbsxFC w) (.mem (.absx w)) 3 4 true (fun _ s => s)

/-- For every form of LDA LDX LDY LAX ADC SBC *SBC AND ORA EOR BIT CMP CPX CPY ANC ALR ARR AXS LAS *NOP: in the next
state every byte of RAM, VRAM, palette and OAM reads as before; S is unchanged but for LAS; I, D and the Break bits
are unchanged; the joypad changes at most in its index. LAX, *SBC, ANC, ALR, ARR, AXS, LAS and *NOP have the spec's
ASSUMED definitions (D31), which the model presumes (log 11). [20_memory.md R105, 30_encoding.md R128, 10_state.md
R24, 10_state.md R22, log 11] -/
def Obligations.ReadingInstructionsStoreNothing : Prop :=
  ∀ (i : Instr) (s t : State),
    i.mnemonic ∈ ([.lda, .ldx, .ldy, .lax, .adc, .sbc, .sbcU, .and, .ora, .eor, .bit, .cmp, .cpx, .cpy, .anc, .alr, .arr,
      .axs, .las, .nopU] : List Mnemonic) →
    exec i s = .next t →
    (∀ n, t.ram.read n = s.ram.read n) ∧ (∀ n, t.ppu.vram.read n = s.ppu.vram.read n) ∧
    (∀ n, t.ppu.palette.read n = s.ppu.palette.read n) ∧ (∀ n, t.ppu.oam.read n = s.ppu.oam.read n) ∧
    (i.mnemonic ≠ .las → t.sp = s.sp) ∧
    (∀ f ∈ ([.i, .d, .b1, .b2] : List Flag), getFlag t.p f = getFlag s.p f) ∧
    t.joy.strobe = s.joy.strobe ∧ t.joy.buttons = s.joy.buttons

/-- For every form of TAX TAY TXA TYA TSX TXS INX INY DEX DEY CLC SEC CLI SEI CLD SED CLV NOP, the accumulator shifts
and the branches: the next state has the same RAM, VRAM, palette, OAM and joypad, the same Control, Mask, scroll,
address and buffer registers of the PPU, and is running if the machine was. [40_load_store_transfer.md R172,
44_stack_flags_nop.md R280, 43_control_flow.md R251, 48_ppu_timing.md R392] -/
def Obligations.RegisterInstructionsTouchNoMemory : Prop :=
  ∀ (i : Instr) (s : State),
    i.mnemonic ∈ ([.tax, .tay, .txa, .tya, .tsx, .txs, .inx, .iny, .dex, .dey, .clc, .sec, .cli, .sei, .cld, .sed, .clv, .nop,
      .bpl, .bmi, .bvc, .bvs, .bcc, .bcs, .bne, .beq] : List Mnemonic) ∨ i.mode = .acc →
    ∃ t, exec i s = .next t ∧ t.ram = s.ram ∧ t.joy = s.joy ∧ t.run = s.run ∧
      t.ppu = { s.ppu with
        scanline := t.ppu.scanline, dot := t.ppu.dot, status := t.ppu.status, pendingNmi := t.ppu.pendingNmi }

/-- For every form of STA, STX, STY, SAX whose effective address (the meaning's own effAddr) is below 0x2000: the
instruction completes, the RAM byte there reads as the register (for SAX A & X), every other RAM byte reads as
before, VRAM, palette, OAM, A, X, Y, S, P are unchanged, and PC is past it. SAX (R312) has the spec's ASSUMED
definition (D31), which the model presumes (log 11). [40_load_store_transfer.md R163, 40_load_store_transfer.md
R164, 40_load_store_transfer.md R165, 45_undocumented.md section 1, 20_memory.md R64, log 11] -/
def Obligations.StoresToRamWriteOneByte : Prop :=
  ∀ (i : Instr) (m : MemMode) (s s1 : State) (ea : Addr) (crossed : Bool),
    i.mnemonic ∈ ([.sta, .stx, .sty, .sax] : List Mnemonic) → i.mode = .mem m →
    effAddr m s = .ok (ea, crossed) s1 → ea.toNat < 0x2000 →
    ∃ t, exec i s = .next t ∧
      t.ram.read (ea.toNat % 0x800) = registerByte i.mnemonic s ∧
      (∀ n, n ≠ ea.toNat % 0x800 → t.ram.read n = s.ram.read n) ∧
      t.ppu.vram = s.ppu.vram ∧ t.ppu.palette = s.ppu.palette ∧ t.ppu.oam = s.ppu.oam ∧
      t.a = s.a ∧ t.x = s.x ∧ t.y = s.y ∧ t.sp = s.sp ∧ t.p = s.p ∧ t.run = s.run ∧
      t.pc = s.pc + BitVec.ofNat 16 i.length

/-- For every memory form of INC DEC ASL LSR ROL ROR DCP ISB SLO RLA SRE RRA whose effective address is below 0x2000:
the instruction completes, the RAM byte there is the incremented, decremented, shifted or rotated byte, every other
byte of RAM and of PPU memory reads as before, X, Y, S, I, D and the Break bits are unchanged, and A is unchanged
but for ISB SLO RLA SRE RRA. DCP, ISB, SLO, RLA, SRE and RRA have the spec's ASSUMED definitions (D31), which the
model presumes (log 11). [41_arithmetic_logic.md R201, 41_arithmetic_logic.md R202, 42_shift_rotate.md R230,
45_undocumented.md section 2 (R313 to R318), log 11] -/
def Obligations.ModifiesInRamWriteOneByte : Prop :=
  ∀ (i : Instr) (m : MemMode) (s s1 : State) (ea : Addr) (crossed : Bool),
    i.mnemonic ∈ ([.inc, .dec, .asl, .lsr, .rol, .ror, .dcp, .isb, .slo, .rla, .sre, .rra] : List Mnemonic) →
    i.mode = .mem m → effAddr m s = .ok (ea, crossed) s1 → ea.toNat < 0x2000 →
    ∃ t, exec i s = .next t ∧
      t.ram.read (ea.toNat % 0x800) = modifiedByte i.mnemonic (s.ram.read (ea.toNat % 0x800)) s ∧
      (∀ n, n ≠ ea.toNat % 0x800 → t.ram.read n = s.ram.read n) ∧
      t.ppu.vram = s.ppu.vram ∧ t.ppu.palette = s.ppu.palette ∧ t.ppu.oam = s.ppu.oam ∧
      t.x = s.x ∧ t.y = s.y ∧ t.sp = s.sp ∧ t.run = s.run ∧ t.pc = s.pc + BitVec.ofNat 16 i.length ∧
      (∀ f ∈ ([.i, .d, .b1, .b2] : List Flag), getFlag t.p f = getFlag s.p f) ∧
      (i.mnemonic ∉ ([.isb, .slo, .rla, .sre, .rra] : List Mnemonic) → t.a = s.a)

/-- For every form of STA STX STY SAX INC DEC ASL LSR ROL ROR DCP ISB SLO RLA SRE RRA whose effective address is 0x8000
or above: the next state is Faulted(RomWrite(ea, v)) for the byte v it would have written, with RAM, PPU, joypad,
cartridge, PC, A, X, Y, S and cycles unchanged. What SAX, DCP, ISB, SLO, RLA, SRE and RRA would have written is by
the spec's ASSUMED definitions (D31), which the model presumes (log 11). [20_memory.md R75, 60_exceptions.md R443,
60_exceptions.md R449, log 11] -/
def Obligations.WritesToRomAreFatal : Prop :=
  ∀ (i : Instr) (m : MemMode) (s s1 : State) (ea : Addr) (crossed : Bool),
    i.mnemonic ∈ ([.sta, .stx, .sty, .sax, .inc, .dec, .asl, .lsr, .rol, .ror, .dcp, .isb, .slo, .rla, .sre, .rra] :
      List Mnemonic) →
    i.mode = .mem m → effAddr m s = .ok (ea, crossed) s1 → 0x8000 ≤ ea.toNat →
    ∃ v p, exec i s = .next { s with run := .faulted (.romWrite ea v), p := p } ∧
      (∀ f, f ≠ .c → getFlag p f = getFlag s.p f) ∧
      v = if i.mnemonic ∈ ([.sta, .stx, .sty, .sax] : List Mnemonic) then registerByte i.mnemonic s
        else modifiedByte i.mnemonic (s.cart.prg.read ((ea.toNat - 0x8000) % s.cart.prgSize.bytes)) s

/-- For every A, byte x and status: after SBC #x and then ADC #x (each run by exec from the state before it), A is A - 1
+ c0 + c1 modulo 256, c0 the carry before the SBC and c1 the carry it left; so A comes back exactly when c0 + c1 =
1, and with c0 = 1 exactly when A < x, otherwise as A + 1. [R208] -/
def Obligations.SubtractThenAdd : Prop :=
  ∀ (x : Byte) (s t u : State), exec (.sbcImm x) s = .next t → exec (.adcImm x) t = .next u →
    u.a = s.a - 1 + BitVec.ofNat 8 (getFlag s.p .c).toNat + BitVec.ofNat 8 (getFlag t.p .c).toNat ∧
      (u.a = s.a ↔ getFlag s.p .c ≠ getFlag t.p .c) ∧
      (getFlag s.p .c = true → (u.a = s.a ↔ s.a.toNat < x.toNat) ∧ (¬ s.a.toNat < x.toNat → u.a = s.a + 1))

/-- A, X, Y are 0, S is SP_RESET, P is 0x24, PC is the word at 0xFFFC of PRG; Halted becomes Running, Faulted stays;
every other field is unchanged: no push, no cycle, no Tick. [R483] -/
def Obligations.ResetWritesTheCpuRegisters : Prop :=
  ∀ s : State,
    resetCpu s =
      { s with
        a := 0
        x := 0
        y := 0
        sp := s.cfg.spReset
        p := 0x24
        pc := hilo (s.cart.prg.read (0x7FFD % s.cart.prgSize.bytes)) (s.cart.prg.read (0x7FFC % s.cart.prgSize.bytes))
        run := match s.run with
          | .halted => .running
          | r => r }

/-- An image of magic, p in 1 or 2, c = 1, bytes 6 and 7 with version 0, eight more header bytes, a 512-byte trainer
exactly when byte 6 bit 2 is set, PRG, CHR and anything after, gives that PRG and CHR byte for byte, with mirroring
and mapper from bytes 6 and 7. An image gives a cartridge exactly when it has 16 bytes, the magic, version 0, 1 or 2
PRG pages, 1 CHR page, and as many bytes as its header, trainer and pages need; any other is refused with some
error. Shorter than 16 bytes, wrong magic, version not 0 are refused in that order with the errors named. Which
error is answered where several hold, and that bytes after CHR are ignored, is the model's choice (log 15).
[70_reset_and_hazards.md R485, 70_reset_and_hazards.md R486, 70_reset_and_hazards.md R487, 00_scope.md R7, log 15] -/
def Obligations.InesImageLoads : Prop :=
  (∀ (size : PrgSize) (b6 b7 : Byte) (rest8 trainer prg chr extra : List Byte),
    (b7 >>> 2) &&& 3 = 0 → rest8.length = 8 → trainer.length = (if b6.getLsbD 2 then 512 else 0) →
    prg.length = size.bytes → chr.length = 8192 →
    ∃ cart, parseInes ([0x4E, 0x45, 0x53, 0x1A, (match size with | .k16 => 1 | .k32 => 2), 1, b6, b7] ++ rest8 ++ trainer
        ++ prg ++ chr ++ extra) = .ok cart ∧
      cart.prgSize = size ∧ (∀ n, cart.prg.read n = prg.getD n 0) ∧ (∀ n, cart.chr.read n = chr.getD n 0) ∧
      cart.mirroring =
        (if b6.getLsbD 3 then .fourScreen else if b6.getLsbD 0 then .vertical else .horizontal) ∧
      cart.mapper.toNat = b7.toNat / 16 * 16 + b6.toNat / 16) ∧
  (∀ image : List Byte, image.length < 16 → parseInes image = .error .tooShort) ∧
  (∀ image : List Byte, 16 ≤ image.length → image.take 4 ≠ [0x4E, 0x45, 0x53, 0x1A] → parseInes image = .error .badMagic) ∧
  (∀ image : List Byte, 16 ≤ image.length → image.take 4 = [0x4E, 0x45, 0x53, 0x1A] →
    (image.getD 7 0 >>> 2) &&& 3 ≠ 0 → parseInes image = .error .unsupportedVersion) ∧
  (∀ image : List Byte,
    (∃ cart, parseInes image = .ok cart) ↔
      16 ≤ image.length ∧ image.take 4 = [0x4E, 0x45, 0x53, 0x1A] ∧ (image.getD 7 0 >>> 2) &&& 3 = 0 ∧
      (image.getD 4 0 = 1 ∨ image.getD 4 0 = 2) ∧ image.getD 5 0 = 1 ∧
      16 + (if (image.getD 6 0).getLsbD 2 then 512 else 0) + 16384 * (image.getD 4 0).toNat
        + 8192 * (image.getD 5 0).toNat ≤ image.length)

/-- For every cartridge and PPU state and every pixel of the 256 by 240 picture, the result of painting main region,
second region and sprites 63 down to 0 in that order is the colour of the lowest-numbered sprite opaque there, else
of the background region that reaches there, else of palette entry 0. That colour is given twice: by the model's
one-pixel function, and as a number by shownAt, which computes bank, tile, attribute quadrant, pattern bits, flips,
palette entry and colour from the bytes of VRAM, CHR, OAM and palette. Under FourScreen the banks are those
Horizontal has, by D27, the ruling R413 names for that row; R413's table differs for ctrl bits 1:0 = 2, 3, and
following D27 there is the model's reading (log 26). [49_renderer.md R410, 49_renderer.md R411, 49_renderer.md R413,
49_renderer.md R414, 49_renderer.md R415, 49_renderer.md R417, 49_renderer.md R418, 49_renderer.md R419,
49_renderer.md section 3 (R420 to R423), 92_eei_decisions.md D27, log 26] -/
def Obligations.PictureIsItsTopmostLayer : Prop :=
  ∀ (cart : Cartridge) (u : Ppu) (x y : Nat), x < 256 → y < 240 →
    picture cart u y x = pixelAt cart u y x ∧ (picture cart u y x).toNat = shownAt cart u x y

/-- Two PPU states that agree on Control bits 0, 1, 3, 4, the scroll registers, VRAM, palette and OAM have the same
picture for the same cartridge. [49_renderer.md R410, 10_state.md R32] -/
def Obligations.PictureReadsOnlyItsInputs : Prop :=
  ∀ (cart : Cartridge) (u w : Ppu) (x y : Nat),
    u.ctrl &&& 0x1B = w.ctrl &&& 0x1B → u.scrollX = w.scrollX → u.scrollY = w.scrollY → u.vram = w.vram →
    u.palette = w.palette → u.oam = w.oam → picture cart u y x = picture cart w y x
end

