-- ==== Sys2Proof/Laws/Memory.lean ====
section
/-!
SUPPORT. Read after write of a sparse byte array, and that every memory operation keeps the canonical form.
-/

namespace Sys2Proof

/-! ### Read after write -/

@[simp] theorem Memory.read_nil (i : Nat) : Memory.read [] i = 0 := rfl

theorem Memory.read_erase_same (m : Memory) (i : Nat) : (Memory.erase m i).read i = unlistedByte := by
  induction m with
  | nil => rfl
  | cons c m ih =>
    obtain ⟨k, v⟩ := c
    by_cases h : k = i
    · simpa [Memory.erase, h] using ih
    · simpa [Memory.erase, h, Memory.read] using ih

theorem Memory.read_erase_other (m : Memory) {i j : Nat} (hij : j ≠ i) :
    (Memory.erase m i).read j = Memory.read m j := by
  induction m with
  | nil => rfl
  | cons c m ih =>
    obtain ⟨k, v⟩ := c
    by_cases h : k = i
    · subst h
      simpa [Memory.erase, Memory.read, Ne.symm hij] using ih
    · by_cases hj : k = j
      · subst hj
        simp [Memory.erase, Memory.read, h]
      · simp [Memory.erase, Memory.read, h, hj, ih]

theorem Memory.read_insert_other (m : Memory) {i j : Nat} (b : Byte) (hij : j ≠ i) :
    (Memory.insert m i b).read j = Memory.read m j := by
  induction m with
  | nil => simp [Memory.insert, Memory.read, Ne.symm hij]
  | cons c m ih =>
    obtain ⟨k, v⟩ := c
    by_cases h : i < k
    · simp [Memory.insert, h, Memory.read, Ne.symm hij]
    · simp [Memory.insert, h, Memory.read, ih]

/-- Inserting at an index that is not listed makes it read as the byte inserted. -/
theorem Memory.read_insert_erase (m : Memory) (i : Nat) (b : Byte) :
    (Memory.insert (Memory.erase m i) i b).read i = b := by
  induction m with
  | nil => simp [Memory.erase, Memory.insert, Memory.read]
  | cons c m ih =>
    obtain ⟨k, v⟩ := c
    by_cases h : k = i
    · simpa [Memory.erase, h] using ih
    · by_cases hlt : i < k
      · simp [Memory.erase, h, Memory.insert, hlt, Memory.read]
      · simpa [Memory.erase, h, Memory.insert, hlt, Memory.read] using ih

theorem Memory.read_write_same (m : Memory) (i : Nat) (b : Byte) : (m.write i b).read i = b := by
  unfold Memory.write
  split
  · next h => rw [Memory.read_erase_same, h]
  · exact Memory.read_insert_erase m i b

theorem Memory.read_write_other (m : Memory) {i j : Nat} (b : Byte) (hij : j ≠ i) :
    (m.write i b).read j = m.read j := by
  unfold Memory.write
  split
  · exact Memory.read_erase_other m hij
  · rw [Memory.read_insert_other _ b hij, Memory.read_erase_other m hij]

/-- What a read gives after a write, in one equation. -/
theorem Memory.read_write (m : Memory) (i j : Nat) (b : Byte) :
    (m.write i b).read j = if j = i then b else m.read j := by
  by_cases h : j = i
  · subst h
    simp [Memory.read_write_same]
  · simp [h, Memory.read_write_other m b h]

/-! ### The canonical form -/

theorem Memory.wfFrom_cons {size lo k : Nat} {v : Byte} {m : Memory} :
    Memory.wfFrom size lo ((k, v) :: m) = true ↔
      lo ≤ k ∧ k < size ∧ v ≠ unlistedByte ∧ Memory.wfFrom size (k + 1) m = true := by
  simp [Memory.wfFrom, and_assoc]

/-- A canonical list from `lo` on is one from any earlier index on. -/
theorem Memory.wfFrom_mono {size lo lo' : Nat} {m : Memory} (hle : lo' ≤ lo)
    (h : Memory.wfFrom size lo m = true) : Memory.wfFrom size lo' m = true := by
  cases m with
  | nil => rfl
  | cons c m =>
    obtain ⟨k, v⟩ := c
    rw [Memory.wfFrom_cons] at h ⊢
    exact ⟨Nat.le_trans hle h.1, h.2⟩

theorem Memory.wfFrom_erase {size lo : Nat} {m : Memory} (i : Nat)
    (h : Memory.wfFrom size lo m = true) : Memory.wfFrom size lo (Memory.erase m i) = true := by
  induction m generalizing lo with
  | nil => rfl
  | cons c m ih =>
    obtain ⟨k, v⟩ := c
    rw [Memory.wfFrom_cons] at h
    by_cases hk : k = i
    · simpa [Memory.erase, hk] using Memory.wfFrom_mono (by omega) (ih h.2.2.2)
    · simp only [Memory.erase, hk, if_false]
      exact Memory.wfFrom_cons.2 ⟨h.1, h.2.1, h.2.2.1, ih h.2.2.2⟩

theorem Memory.wfFrom_insert {size lo : Nat} {m : Memory} {i : Nat} {b : Byte} (hlo : lo ≤ i) (hi : i < size)
    (hb : b ≠ unlistedByte) (hread : ∀ c ∈ m, c.1 ≠ i) (h : Memory.wfFrom size lo m = true) :
    Memory.wfFrom size lo (Memory.insert m i b) = true := by
  induction m generalizing lo with
  | nil => exact Memory.wfFrom_cons.2 ⟨hlo, hi, hb, rfl⟩
  | cons c m ih =>
    obtain ⟨k, v⟩ := c
    rw [Memory.wfFrom_cons] at h
    have hk : k ≠ i := hread (k, v) (List.mem_cons_self ..)
    by_cases hlt : i < k
    · simp only [Memory.insert, hlt, if_true]
      exact Memory.wfFrom_cons.2 ⟨hlo, hi, hb, Memory.wfFrom_cons.2 ⟨hlt, h.2⟩⟩
    · simp only [Memory.insert, hlt, if_false]
      refine Memory.wfFrom_cons.2 ⟨h.1, h.2.1, h.2.2.1, ih (by omega) ?_ h.2.2.2⟩
      exact fun c hc => hread c (List.mem_cons_of_mem _ hc)

theorem Memory.erase_index_ne {m : Memory} {i : Nat} : ∀ c ∈ Memory.erase m i, c.1 ≠ i := by
  induction m with
  | nil => simp [Memory.erase]
  | cons c m ih =>
    obtain ⟨k, v⟩ := c
    by_cases hk : k = i
    · simpa [Memory.erase, hk] using ih
    · intro d hd
      simp only [Memory.erase, hk, if_false, List.mem_cons] at hd
      rcases hd with rfl | hd
      · exact hk
      · exact ih d hd

/-- A write inside the array keeps the canonical form. -/
theorem Memory.wf_write {size : Nat} {m : Memory} {i : Nat} (b : Byte) (hi : i < size) (h : m.wf size = true) :
    (m.write i b).wf size = true := by
  unfold Memory.write
  split
  · exact Memory.wfFrom_erase i h
  · next hb =>
    exact Memory.wfFrom_insert (Nat.zero_le i) hi hb Memory.erase_index_ne (Memory.wfFrom_erase i h)

/-- The empty array is canonical. -/
@[simp] theorem Memory.wf_nil (size : Nat) : Memory.wf size [] = true := rfl

theorem Memory.wfFrom_ofBytesFrom (bs : List Byte) (i size : Nat) (h : i + bs.length ≤ size) :
    Memory.wfFrom size i (Memory.ofBytesFrom i bs) = true := by
  induction bs generalizing i with
  | nil => rfl
  | cons b bs ih =>
    simp only [List.length_cons] at h
    unfold Memory.ofBytesFrom
    split
    · exact Memory.wfFrom_mono (Nat.le_succ i) (ih (i + 1) (by omega))
    · next hb => exact Memory.wfFrom_cons.2 ⟨Nat.le_refl i, by omega, hb, ih (i + 1) (by omega)⟩

/-- The array made of a list of bytes is canonical. -/
theorem Memory.wf_ofBytes (bs : List Byte) (size : Nat) (h : bs.length ≤ size) :
    (Memory.ofBytes bs).wf size = true :=
  Memory.wfFrom_ofBytesFrom bs 0 size (by omega)

theorem Memory.read_ofBytesFrom (bs : List Byte) (i j : Nat) :
    (Memory.ofBytesFrom i bs).read j = if i ≤ j then bs.getD (j - i) 0 else 0 := by
  induction bs generalizing i with
  | nil => simp [Memory.ofBytesFrom]
  | cons b bs ih =>
    unfold Memory.ofBytesFrom
    by_cases hij : i = j
    · subst hij
      by_cases hb : b = unlistedByte
      · simp only [hb, if_true]
        rw [ih, if_neg (by omega), if_pos (Nat.le_refl i)]
        simp [unlistedByte]
      · simp [hb, Memory.read]
    · have hstep : (if i + 1 ≤ j then bs.getD (j - (i + 1)) 0 else 0)
          = if i ≤ j then (b :: bs).getD (j - i) 0 else (0 : Byte) := by
        by_cases hlt : i + 1 ≤ j
        · have : j - i = (j - (i + 1)) + 1 := by omega
          rw [if_pos hlt, if_pos (by omega), this, List.getD_cons_succ]
        · rw [if_neg hlt, if_neg (by omega)]
      by_cases hb : b = unlistedByte
      · simp only [hb, if_true]
        rw [ih, hstep, hb]
      · simp only [hb, if_false, Memory.read, hij]
        rw [ih, hstep]

/-- Byte `j` of the array made of a list of bytes. -/
theorem Memory.read_ofBytes (bs : List Byte) (j : Nat) : (Memory.ofBytes bs).read j = bs.getD j 0 := by
  simp [Memory.ofBytes, Memory.read_ofBytesFrom]

end Sys2Proof
end

