-- ==== Sys2Proof/Laws/State.lean ====
section
/-!
SUPPORT. What each update of the state does to each field: one lemma per field per update, so that no later proof unfolds
a record update.
-/

namespace Sys2Proof.Machine

variable (s : State)

/-! ### `State.setA` -/

@[simp] theorem State.setA_a (v : Byte) : (s.setA v).a = v := rfl
@[simp] theorem State.setA_x (v : Byte) : (s.setA v).x = s.x := rfl
@[simp] theorem State.setA_y (v : Byte) : (s.setA v).y = s.y := rfl
@[simp] theorem State.setA_sp (v : Byte) : (s.setA v).sp = s.sp := rfl
@[simp] theorem State.setA_p (v : Byte) : (s.setA v).p = s.p := rfl
@[simp] theorem State.setA_pc (v : Byte) : (s.setA v).pc = s.pc := rfl
@[simp] theorem State.setA_ram (v : Byte) : (s.setA v).ram = s.ram := rfl
@[simp] theorem State.setA_ppu (v : Byte) : (s.setA v).ppu = s.ppu := rfl
@[simp] theorem State.setA_joy (v : Byte) : (s.setA v).joy = s.joy := rfl
@[simp] theorem State.setA_cycles (v : Byte) : (s.setA v).cycles = s.cycles := rfl
@[simp] theorem State.setA_run (v : Byte) : (s.setA v).run = s.run := rfl
@[simp] theorem State.setA_frameReady (v : Byte) : (s.setA v).frameReady = s.frameReady := rfl
@[simp] theorem State.setA_cart (v : Byte) : (s.setA v).cart = s.cart := rfl
@[simp] theorem State.setA_cfg (v : Byte) : (s.setA v).cfg = s.cfg := rfl

/-! ### `State.setX` -/

@[simp] theorem State.setX_a (v : Byte) : (s.setX v).a = s.a := rfl
@[simp] theorem State.setX_x (v : Byte) : (s.setX v).x = v := rfl
@[simp] theorem State.setX_y (v : Byte) : (s.setX v).y = s.y := rfl
@[simp] theorem State.setX_sp (v : Byte) : (s.setX v).sp = s.sp := rfl
@[simp] theorem State.setX_p (v : Byte) : (s.setX v).p = s.p := rfl
@[simp] theorem State.setX_pc (v : Byte) : (s.setX v).pc = s.pc := rfl
@[simp] theorem State.setX_ram (v : Byte) : (s.setX v).ram = s.ram := rfl
@[simp] theorem State.setX_ppu (v : Byte) : (s.setX v).ppu = s.ppu := rfl
@[simp] theorem State.setX_joy (v : Byte) : (s.setX v).joy = s.joy := rfl
@[simp] theorem State.setX_cycles (v : Byte) : (s.setX v).cycles = s.cycles := rfl
@[simp] theorem State.setX_run (v : Byte) : (s.setX v).run = s.run := rfl
@[simp] theorem State.setX_frameReady (v : Byte) : (s.setX v).frameReady = s.frameReady := rfl
@[simp] theorem State.setX_cart (v : Byte) : (s.setX v).cart = s.cart := rfl
@[simp] theorem State.setX_cfg (v : Byte) : (s.setX v).cfg = s.cfg := rfl

/-! ### `State.setY` -/

@[simp] theorem State.setY_a (v : Byte) : (s.setY v).a = s.a := rfl
@[simp] theorem State.setY_x (v : Byte) : (s.setY v).x = s.x := rfl
@[simp] theorem State.setY_y (v : Byte) : (s.setY v).y = v := rfl
@[simp] theorem State.setY_sp (v : Byte) : (s.setY v).sp = s.sp := rfl
@[simp] theorem State.setY_p (v : Byte) : (s.setY v).p = s.p := rfl
@[simp] theorem State.setY_pc (v : Byte) : (s.setY v).pc = s.pc := rfl
@[simp] theorem State.setY_ram (v : Byte) : (s.setY v).ram = s.ram := rfl
@[simp] theorem State.setY_ppu (v : Byte) : (s.setY v).ppu = s.ppu := rfl
@[simp] theorem State.setY_joy (v : Byte) : (s.setY v).joy = s.joy := rfl
@[simp] theorem State.setY_cycles (v : Byte) : (s.setY v).cycles = s.cycles := rfl
@[simp] theorem State.setY_run (v : Byte) : (s.setY v).run = s.run := rfl
@[simp] theorem State.setY_frameReady (v : Byte) : (s.setY v).frameReady = s.frameReady := rfl
@[simp] theorem State.setY_cart (v : Byte) : (s.setY v).cart = s.cart := rfl
@[simp] theorem State.setY_cfg (v : Byte) : (s.setY v).cfg = s.cfg := rfl

/-! ### `State.setSp` -/

@[simp] theorem State.setSp_a (v : Byte) : (s.setSp v).a = s.a := rfl
@[simp] theorem State.setSp_x (v : Byte) : (s.setSp v).x = s.x := rfl
@[simp] theorem State.setSp_y (v : Byte) : (s.setSp v).y = s.y := rfl
@[simp] theorem State.setSp_sp (v : Byte) : (s.setSp v).sp = v := rfl
@[simp] theorem State.setSp_p (v : Byte) : (s.setSp v).p = s.p := rfl
@[simp] theorem State.setSp_pc (v : Byte) : (s.setSp v).pc = s.pc := rfl
@[simp] theorem State.setSp_ram (v : Byte) : (s.setSp v).ram = s.ram := rfl
@[simp] theorem State.setSp_ppu (v : Byte) : (s.setSp v).ppu = s.ppu := rfl
@[simp] theorem State.setSp_joy (v : Byte) : (s.setSp v).joy = s.joy := rfl
@[simp] theorem State.setSp_cycles (v : Byte) : (s.setSp v).cycles = s.cycles := rfl
@[simp] theorem State.setSp_run (v : Byte) : (s.setSp v).run = s.run := rfl
@[simp] theorem State.setSp_frameReady (v : Byte) : (s.setSp v).frameReady = s.frameReady := rfl
@[simp] theorem State.setSp_cart (v : Byte) : (s.setSp v).cart = s.cart := rfl
@[simp] theorem State.setSp_cfg (v : Byte) : (s.setSp v).cfg = s.cfg := rfl

/-! ### `State.setP` -/

@[simp] theorem State.setP_a (v : Byte) : (s.setP v).a = s.a := rfl
@[simp] theorem State.setP_x (v : Byte) : (s.setP v).x = s.x := rfl
@[simp] theorem State.setP_y (v : Byte) : (s.setP v).y = s.y := rfl
@[simp] theorem State.setP_sp (v : Byte) : (s.setP v).sp = s.sp := rfl
@[simp] theorem State.setP_p (v : Byte) : (s.setP v).p = v := rfl
@[simp] theorem State.setP_pc (v : Byte) : (s.setP v).pc = s.pc := rfl
@[simp] theorem State.setP_ram (v : Byte) : (s.setP v).ram = s.ram := rfl
@[simp] theorem State.setP_ppu (v : Byte) : (s.setP v).ppu = s.ppu := rfl
@[simp] theorem State.setP_joy (v : Byte) : (s.setP v).joy = s.joy := rfl
@[simp] theorem State.setP_cycles (v : Byte) : (s.setP v).cycles = s.cycles := rfl
@[simp] theorem State.setP_run (v : Byte) : (s.setP v).run = s.run := rfl
@[simp] theorem State.setP_frameReady (v : Byte) : (s.setP v).frameReady = s.frameReady := rfl
@[simp] theorem State.setP_cart (v : Byte) : (s.setP v).cart = s.cart := rfl
@[simp] theorem State.setP_cfg (v : Byte) : (s.setP v).cfg = s.cfg := rfl

/-! ### `State.setPc` -/

@[simp] theorem State.setPc_a (w : Addr) : (s.setPc w).a = s.a := rfl
@[simp] theorem State.setPc_x (w : Addr) : (s.setPc w).x = s.x := rfl
@[simp] theorem State.setPc_y (w : Addr) : (s.setPc w).y = s.y := rfl
@[simp] theorem State.setPc_sp (w : Addr) : (s.setPc w).sp = s.sp := rfl
@[simp] theorem State.setPc_p (w : Addr) : (s.setPc w).p = s.p := rfl
@[simp] theorem State.setPc_pc (w : Addr) : (s.setPc w).pc = w := rfl
@[simp] theorem State.setPc_ram (w : Addr) : (s.setPc w).ram = s.ram := rfl
@[simp] theorem State.setPc_ppu (w : Addr) : (s.setPc w).ppu = s.ppu := rfl
@[simp] theorem State.setPc_joy (w : Addr) : (s.setPc w).joy = s.joy := rfl
@[simp] theorem State.setPc_cycles (w : Addr) : (s.setPc w).cycles = s.cycles := rfl
@[simp] theorem State.setPc_run (w : Addr) : (s.setPc w).run = s.run := rfl
@[simp] theorem State.setPc_frameReady (w : Addr) : (s.setPc w).frameReady = s.frameReady := rfl
@[simp] theorem State.setPc_cart (w : Addr) : (s.setPc w).cart = s.cart := rfl
@[simp] theorem State.setPc_cfg (w : Addr) : (s.setPc w).cfg = s.cfg := rfl

/-! ### `State.setRam` -/

@[simp] theorem State.setRam_a (m : Memory) : (s.setRam m).a = s.a := rfl
@[simp] theorem State.setRam_x (m : Memory) : (s.setRam m).x = s.x := rfl
@[simp] theorem State.setRam_y (m : Memory) : (s.setRam m).y = s.y := rfl
@[simp] theorem State.setRam_sp (m : Memory) : (s.setRam m).sp = s.sp := rfl
@[simp] theorem State.setRam_p (m : Memory) : (s.setRam m).p = s.p := rfl
@[simp] theorem State.setRam_pc (m : Memory) : (s.setRam m).pc = s.pc := rfl
@[simp] theorem State.setRam_ram (m : Memory) : (s.setRam m).ram = m := rfl
@[simp] theorem State.setRam_ppu (m : Memory) : (s.setRam m).ppu = s.ppu := rfl
@[simp] theorem State.setRam_joy (m : Memory) : (s.setRam m).joy = s.joy := rfl
@[simp] theorem State.setRam_cycles (m : Memory) : (s.setRam m).cycles = s.cycles := rfl
@[simp] theorem State.setRam_run (m : Memory) : (s.setRam m).run = s.run := rfl
@[simp] theorem State.setRam_frameReady (m : Memory) : (s.setRam m).frameReady = s.frameReady := rfl
@[simp] theorem State.setRam_cart (m : Memory) : (s.setRam m).cart = s.cart := rfl
@[simp] theorem State.setRam_cfg (m : Memory) : (s.setRam m).cfg = s.cfg := rfl

/-! ### `State.setPpu` -/

@[simp] theorem State.setPpu_a (u : Ppu) : (s.setPpu u).a = s.a := rfl
@[simp] theorem State.setPpu_x (u : Ppu) : (s.setPpu u).x = s.x := rfl
@[simp] theorem State.setPpu_y (u : Ppu) : (s.setPpu u).y = s.y := rfl
@[simp] theorem State.setPpu_sp (u : Ppu) : (s.setPpu u).sp = s.sp := rfl
@[simp] theorem State.setPpu_p (u : Ppu) : (s.setPpu u).p = s.p := rfl
@[simp] theorem State.setPpu_pc (u : Ppu) : (s.setPpu u).pc = s.pc := rfl
@[simp] theorem State.setPpu_ram (u : Ppu) : (s.setPpu u).ram = s.ram := rfl
@[simp] theorem State.setPpu_ppu (u : Ppu) : (s.setPpu u).ppu = u := rfl
@[simp] theorem State.setPpu_joy (u : Ppu) : (s.setPpu u).joy = s.joy := rfl
@[simp] theorem State.setPpu_cycles (u : Ppu) : (s.setPpu u).cycles = s.cycles := rfl
@[simp] theorem State.setPpu_run (u : Ppu) : (s.setPpu u).run = s.run := rfl
@[simp] theorem State.setPpu_frameReady (u : Ppu) : (s.setPpu u).frameReady = s.frameReady := rfl
@[simp] theorem State.setPpu_cart (u : Ppu) : (s.setPpu u).cart = s.cart := rfl
@[simp] theorem State.setPpu_cfg (u : Ppu) : (s.setPpu u).cfg = s.cfg := rfl

/-! ### `State.setJoy` -/

@[simp] theorem State.setJoy_a (j : Joypad) : (s.setJoy j).a = s.a := rfl
@[simp] theorem State.setJoy_x (j : Joypad) : (s.setJoy j).x = s.x := rfl
@[simp] theorem State.setJoy_y (j : Joypad) : (s.setJoy j).y = s.y := rfl
@[simp] theorem State.setJoy_sp (j : Joypad) : (s.setJoy j).sp = s.sp := rfl
@[simp] theorem State.setJoy_p (j : Joypad) : (s.setJoy j).p = s.p := rfl
@[simp] theorem State.setJoy_pc (j : Joypad) : (s.setJoy j).pc = s.pc := rfl
@[simp] theorem State.setJoy_ram (j : Joypad) : (s.setJoy j).ram = s.ram := rfl
@[simp] theorem State.setJoy_ppu (j : Joypad) : (s.setJoy j).ppu = s.ppu := rfl
@[simp] theorem State.setJoy_joy (j : Joypad) : (s.setJoy j).joy = j := rfl
@[simp] theorem State.setJoy_cycles (j : Joypad) : (s.setJoy j).cycles = s.cycles := rfl
@[simp] theorem State.setJoy_run (j : Joypad) : (s.setJoy j).run = s.run := rfl
@[simp] theorem State.setJoy_frameReady (j : Joypad) : (s.setJoy j).frameReady = s.frameReady := rfl
@[simp] theorem State.setJoy_cart (j : Joypad) : (s.setJoy j).cart = s.cart := rfl
@[simp] theorem State.setJoy_cfg (j : Joypad) : (s.setJoy j).cfg = s.cfg := rfl

/-! ### `State.setRun` -/

@[simp] theorem State.setRun_a (r : Run) : (s.setRun r).a = s.a := rfl
@[simp] theorem State.setRun_x (r : Run) : (s.setRun r).x = s.x := rfl
@[simp] theorem State.setRun_y (r : Run) : (s.setRun r).y = s.y := rfl
@[simp] theorem State.setRun_sp (r : Run) : (s.setRun r).sp = s.sp := rfl
@[simp] theorem State.setRun_p (r : Run) : (s.setRun r).p = s.p := rfl
@[simp] theorem State.setRun_pc (r : Run) : (s.setRun r).pc = s.pc := rfl
@[simp] theorem State.setRun_ram (r : Run) : (s.setRun r).ram = s.ram := rfl
@[simp] theorem State.setRun_ppu (r : Run) : (s.setRun r).ppu = s.ppu := rfl
@[simp] theorem State.setRun_joy (r : Run) : (s.setRun r).joy = s.joy := rfl
@[simp] theorem State.setRun_cycles (r : Run) : (s.setRun r).cycles = s.cycles := rfl
@[simp] theorem State.setRun_run (r : Run) : (s.setRun r).run = r := rfl
@[simp] theorem State.setRun_frameReady (r : Run) : (s.setRun r).frameReady = s.frameReady := rfl
@[simp] theorem State.setRun_cart (r : Run) : (s.setRun r).cart = s.cart := rfl
@[simp] theorem State.setRun_cfg (r : Run) : (s.setRun r).cfg = s.cfg := rfl

/-! ### `State.setFrameReady` -/

@[simp] theorem State.setFrameReady_a (e : Bool) : (s.setFrameReady e).a = s.a := rfl
@[simp] theorem State.setFrameReady_x (e : Bool) : (s.setFrameReady e).x = s.x := rfl
@[simp] theorem State.setFrameReady_y (e : Bool) : (s.setFrameReady e).y = s.y := rfl
@[simp] theorem State.setFrameReady_sp (e : Bool) : (s.setFrameReady e).sp = s.sp := rfl
@[simp] theorem State.setFrameReady_p (e : Bool) : (s.setFrameReady e).p = s.p := rfl
@[simp] theorem State.setFrameReady_pc (e : Bool) : (s.setFrameReady e).pc = s.pc := rfl
@[simp] theorem State.setFrameReady_ram (e : Bool) : (s.setFrameReady e).ram = s.ram := rfl
@[simp] theorem State.setFrameReady_ppu (e : Bool) : (s.setFrameReady e).ppu = s.ppu := rfl
@[simp] theorem State.setFrameReady_joy (e : Bool) : (s.setFrameReady e).joy = s.joy := rfl
@[simp] theorem State.setFrameReady_cycles (e : Bool) : (s.setFrameReady e).cycles = s.cycles := rfl
@[simp] theorem State.setFrameReady_run (e : Bool) : (s.setFrameReady e).run = s.run := rfl
@[simp] theorem State.setFrameReady_frameReady (e : Bool) : (s.setFrameReady e).frameReady = e := rfl
@[simp] theorem State.setFrameReady_cart (e : Bool) : (s.setFrameReady e).cart = s.cart := rfl
@[simp] theorem State.setFrameReady_cfg (e : Bool) : (s.setFrameReady e).cfg = s.cfg := rfl

/-! ### `State.setFlag`, `State.setZN` -/

@[simp] theorem State.setFlag_a (f : Flag) (b : Bool) : (s.setFlag f b).a = s.a := rfl
@[simp] theorem State.setZN_a (v : Byte) : (s.setZN v).a = s.a := rfl
@[simp] theorem State.setFlag_x (f : Flag) (b : Bool) : (s.setFlag f b).x = s.x := rfl
@[simp] theorem State.setZN_x (v : Byte) : (s.setZN v).x = s.x := rfl
@[simp] theorem State.setFlag_y (f : Flag) (b : Bool) : (s.setFlag f b).y = s.y := rfl
@[simp] theorem State.setZN_y (v : Byte) : (s.setZN v).y = s.y := rfl
@[simp] theorem State.setFlag_sp (f : Flag) (b : Bool) : (s.setFlag f b).sp = s.sp := rfl
@[simp] theorem State.setZN_sp (v : Byte) : (s.setZN v).sp = s.sp := rfl
@[simp] theorem State.setFlag_p (f : Flag) (b : Bool) : (s.setFlag f b).p = putFlag s.p f b := rfl
@[simp] theorem State.setZN_p (v : Byte) : (s.setZN v).p = znFlags s.p v := rfl
@[simp] theorem State.setFlag_pc (f : Flag) (b : Bool) : (s.setFlag f b).pc = s.pc := rfl
@[simp] theorem State.setZN_pc (v : Byte) : (s.setZN v).pc = s.pc := rfl
@[simp] theorem State.setFlag_ram (f : Flag) (b : Bool) : (s.setFlag f b).ram = s.ram := rfl
@[simp] theorem State.setZN_ram (v : Byte) : (s.setZN v).ram = s.ram := rfl
@[simp] theorem State.setFlag_ppu (f : Flag) (b : Bool) : (s.setFlag f b).ppu = s.ppu := rfl
@[simp] theorem State.setZN_ppu (v : Byte) : (s.setZN v).ppu = s.ppu := rfl
@[simp] theorem State.setFlag_joy (f : Flag) (b : Bool) : (s.setFlag f b).joy = s.joy := rfl
@[simp] theorem State.setZN_joy (v : Byte) : (s.setZN v).joy = s.joy := rfl
@[simp] theorem State.setFlag_cycles (f : Flag) (b : Bool) : (s.setFlag f b).cycles = s.cycles := rfl
@[simp] theorem State.setZN_cycles (v : Byte) : (s.setZN v).cycles = s.cycles := rfl
@[simp] theorem State.setFlag_run (f : Flag) (b : Bool) : (s.setFlag f b).run = s.run := rfl
@[simp] theorem State.setZN_run (v : Byte) : (s.setZN v).run = s.run := rfl
@[simp] theorem State.setFlag_frameReady (f : Flag) (b : Bool) : (s.setFlag f b).frameReady = s.frameReady := rfl
@[simp] theorem State.setZN_frameReady (v : Byte) : (s.setZN v).frameReady = s.frameReady := rfl
@[simp] theorem State.setFlag_cart (f : Flag) (b : Bool) : (s.setFlag f b).cart = s.cart := rfl
@[simp] theorem State.setZN_cart (v : Byte) : (s.setZN v).cart = s.cart := rfl
@[simp] theorem State.setFlag_cfg (f : Flag) (b : Bool) : (s.setFlag f b).cfg = s.cfg := rfl
@[simp] theorem State.setZN_cfg (v : Byte) : (s.setZN v).cfg = s.cfg := rfl

/-! ### `advance`, `State.raise` -/

@[simp] theorem advance_a (op : Byte) : (advance op s).a = s.a := rfl
@[simp] theorem State.raise_a (k : FatalKind) : (s.raise k).a = s.a := rfl
@[simp] theorem advance_x (op : Byte) : (advance op s).x = s.x := rfl
@[simp] theorem State.raise_x (k : FatalKind) : (s.raise k).x = s.x := rfl
@[simp] theorem advance_y (op : Byte) : (advance op s).y = s.y := rfl
@[simp] theorem State.raise_y (k : FatalKind) : (s.raise k).y = s.y := rfl
@[simp] theorem advance_sp (op : Byte) : (advance op s).sp = s.sp := rfl
@[simp] theorem State.raise_sp (k : FatalKind) : (s.raise k).sp = s.sp := rfl
@[simp] theorem advance_p (op : Byte) : (advance op s).p = s.p := rfl
@[simp] theorem State.raise_p (k : FatalKind) : (s.raise k).p = s.p := rfl
@[simp] theorem advance_pc (op : Byte) : (advance op s).pc = s.pc + BitVec.ofNat 16 (lengthOf op) := rfl
@[simp] theorem State.raise_pc (k : FatalKind) : (s.raise k).pc = s.pc := rfl
@[simp] theorem advance_ram (op : Byte) : (advance op s).ram = s.ram := rfl
@[simp] theorem State.raise_ram (k : FatalKind) : (s.raise k).ram = s.ram := rfl
@[simp] theorem advance_ppu (op : Byte) : (advance op s).ppu = s.ppu := rfl
@[simp] theorem State.raise_ppu (k : FatalKind) : (s.raise k).ppu = s.ppu := rfl
@[simp] theorem advance_joy (op : Byte) : (advance op s).joy = s.joy := rfl
@[simp] theorem State.raise_joy (k : FatalKind) : (s.raise k).joy = s.joy := rfl
@[simp] theorem advance_cycles (op : Byte) : (advance op s).cycles = s.cycles := rfl
@[simp] theorem State.raise_cycles (k : FatalKind) : (s.raise k).cycles = s.cycles := rfl
@[simp] theorem advance_run (op : Byte) : (advance op s).run = s.run := rfl
@[simp] theorem State.raise_run (k : FatalKind) : (s.raise k).run = .faulted k := rfl
@[simp] theorem advance_frameReady (op : Byte) : (advance op s).frameReady = s.frameReady := rfl
@[simp] theorem State.raise_frameReady (k : FatalKind) : (s.raise k).frameReady = s.frameReady := rfl
@[simp] theorem advance_cart (op : Byte) : (advance op s).cart = s.cart := rfl
@[simp] theorem State.raise_cart (k : FatalKind) : (s.raise k).cart = s.cart := rfl
@[simp] theorem advance_cfg (op : Byte) : (advance op s).cfg = s.cfg := rfl
@[simp] theorem State.raise_cfg (k : FatalKind) : (s.raise k).cfg = s.cfg := rfl

/-! ### `tick` -/

@[simp] theorem tick_a (n : Nat) : (tick n s).a = s.a := rfl
@[simp] theorem tick_x (n : Nat) : (tick n s).x = s.x := rfl
@[simp] theorem tick_y (n : Nat) : (tick n s).y = s.y := rfl
@[simp] theorem tick_sp (n : Nat) : (tick n s).sp = s.sp := rfl
@[simp] theorem tick_p (n : Nat) : (tick n s).p = s.p := rfl
@[simp] theorem tick_pc (n : Nat) : (tick n s).pc = s.pc := rfl
@[simp] theorem tick_ram (n : Nat) : (tick n s).ram = s.ram := rfl
@[simp] theorem tick_ppu (n : Nat) : (tick n s).ppu = advanceDots (3 * n) s.ppu := rfl
@[simp] theorem tick_joy (n : Nat) : (tick n s).joy = s.joy := rfl
@[simp] theorem tick_cycles (n : Nat) : (tick n s).cycles = s.cycles + n := rfl
@[simp] theorem tick_run (n : Nat) : (tick n s).run = s.run := rfl
@[simp] theorem tick_frameReady (n : Nat) : (tick n s).frameReady = (s.frameReady || (!s.ppu.pendingNmi && (advanceDots (3 * n) s.ppu).pendingNmi)) := rfl
@[simp] theorem tick_cart (n : Nat) : (tick n s).cart = s.cart := rfl
@[simp] theorem tick_cfg (n : Nat) : (tick n s).cfg = s.cfg := rfl

end Sys2Proof.Machine
end

