-- ==== Sys2Proof/Laws/Bus.lean ====
section
/-!
SUPPORT. Everything a bus access can do. `memRead_ok` and `memWrite_ok` say once what a completed access leaves, so that
no later proof splits the address map; the `_of_` lemmas give one region each.
-/

namespace Sys2Proof.Machine

/-! ### Sequencing -/

@[simp] theorem Access.andThen_ok {α β : Type} (v : α) (s : State) (f : α → State → Access β) :
    (Access.ok v s).andThen f = f v s := rfl

@[simp] theorem Access.andThen_fatal {α β : Type} (k : FatalKind) (s : State) (f : α → State → Access β) :
    (Access.fatal k s).andThen f = .fatal k s := rfl

theorem Access.andThen_eq_ok {α β : Type} {r : Access α} {f : α → State → Access β} {w : β} {t : State} :
    r.andThen f = .ok w t ↔ ∃ v s, r = .ok v s ∧ f v s = .ok w t := by
  cases r with
  | ok v s =>
    constructor
    · intro h; exact ⟨v, s, rfl, h⟩
    · rintro ⟨_, _, h, h'⟩; cases h; exact h'
  | fatal k s => simp

theorem Access.andThen_eq_fatal {α β : Type} {r : Access α} {f : α → State → Access β} {k : FatalKind} {t : State} :
    r.andThen f = .fatal k t ↔ r = .fatal k t ∨ ∃ v s, r = .ok v s ∧ f v s = .fatal k t := by
  cases r with
  | ok v s =>
    constructor
    · intro h; exact .inr ⟨v, s, rfl, h⟩
    · rintro (h | ⟨_, _, h, h'⟩)
      · cases h
      · cases h; exact h'
  | fatal k s => simp

theorem Access.andThen_assoc {α β γ : Type} (r : Access α) (f : α → State → Access β) (g : β → State → Access γ) :
    (r.andThen f).andThen g = r.andThen fun v s => (f v s).andThen g := by
  cases r <;> rfl

/-! ### Regions of the CPU address map -/

theorem memRead_of_ram {a : Addr} (h : a.toNat < 0x2000) (s : State) :
    memRead a s = .ok (s.ram.read (a.toNat % 0x800)) s := by simp [memRead, h, ramIndex]

theorem memRead_of_ppu {a : Addr} (h : 0x2000 ≤ a.toNat) (h' : a.toNat < 0x4000) (s : State) :
    memRead a s = ppuRegRead a s := by simp [memRead, Nat.not_lt.mpr h, h']

theorem memRead_of_prg {a : Addr} (h : 0x8000 ≤ a.toNat) (s : State) :
    memRead a s = .ok (s.cart.prg.read ((a.toNat - 0x8000) % s.cart.prgSize.bytes)) s := by
  unfold memRead
  rw [if_neg (by omega), if_neg (by omega), if_neg (by omega), if_neg (by omega), if_neg (by omega)]
  rfl

theorem memWrite_of_ram {a : Addr} (h : a.toNat < 0x2000) (b : Byte) (s : State) :
    memWrite a b s = .ok 0 (s.setRam (s.ram.write (a.toNat % 0x800) b)) := by simp [memWrite, h, ramIndex]

theorem memWrite_of_ppu {a : Addr} (h : 0x2000 ≤ a.toNat) (h' : a.toNat < 0x4000) (b : Byte) (s : State) :
    memWrite a b s = ppuRegWrite a b s := by simp [memWrite, Nat.not_lt.mpr h, h']

theorem memWrite_of_prg {a : Addr} (h : 0x8000 ≤ a.toNat) (b : Byte) (s : State) :
    memWrite a b s = .fatal (.romWrite a b) s := by
  unfold memWrite
  rw [if_neg (by omega), if_neg (by omega), if_neg (by omega), if_neg (by omega), if_neg (by omega)]

/-! ### Everything a read can do -/

theorem ppuMemRead_of_dataRead {cart : Cartridge} {u w : Ppu} {b : Byte} (h : dataRead cart u = .ok (b, w)) :
    w = incrementV u ∨ ∃ r, w = { incrementV u with readBuffer := r } := by
  unfold dataRead at h
  split at h
  · cases h
  · split at h
    · cases h; exact .inl rfl
    · cases h; exact .inr ⟨_, rfl⟩

/-- A completed read leaves the state, or moves the PPU or the joypad as the rule of its register says. -/
theorem memRead_ok {a : Addr} {s t : State} {b : Byte} (h : memRead a s = .ok b t) :
    t = s ∨ t = s.setPpu (statusReadEffect s.ppu) ∨
      (∃ u, dataRead s.cart s.ppu = .ok (b, u) ∧ t = s.setPpu u) ∨ t = s.setJoy (joypadReadEffect s.joy) := by
  unfold memRead at h
  split at h
  · cases h; exact .inl rfl
  split at h
  · unfold ppuRegRead at h
    split at h
    · cases h; exact .inr (.inl rfl)
    · cases h; exact .inl rfl
    · split at h
      · rename_i heq; cases h; exact .inr (.inr (.inl ⟨_, heq, rfl⟩))
      · cases h
    · unfold writeOnlyRead at h
      split at h
      · cases h
      · cases h; exact .inl rfl
  split at h
  · unfold writeOnlyRead at h
    split at h
    · cases h
    · cases h; exact .inl rfl
  split at h
  · unfold joypadRead at h
    split at h
    · cases h; exact .inr (.inr (.inr rfl))
    · cases h; exact .inl rfl
  split at h
  · cases h; exact .inl rfl
  · cases h; exact .inl rfl

/-- A fatal read changes nothing. -/
theorem memRead_fatal {a : Addr} {s t : State} {k : FatalKind} (h : memRead a s = .fatal k t) : t = s := by
  unfold memRead at h
  split at h
  · cases h
  split at h
  · unfold ppuRegRead at h
    split at h
    · cases h
    · cases h
    · split at h
      · cases h
      · cases h; rfl
    · unfold writeOnlyRead at h
      split at h
      · cases h; rfl
      · cases h
  split at h
  · unfold writeOnlyRead at h
    split at h
    · cases h; rfl
    · cases h
  split at h
  · unfold joypadRead at h
    split at h <;> cases h
  split at h <;> cases h

/-! ### Everything a write can do -/

theorem mirrorVram_lt {mi : Mirroring} {a : PpuAddr} {i : Nat} (h : mirrorVram mi a = .ok i) (ha : a.toNat < 0x3000) :
    i < 0x800 := by
  cases mi <;> simp only [mirrorVram, nametableBank] at h <;> injection h <;> omega

/-- What a completed write to the data register leaves: `v` steps, and one byte of VRAM or of the palette may change. -/
theorem dataWrite_ok {cart : Cartridge} {u w : Ppu} {b : Byte} (h : dataWrite cart b u = .ok w) :
    w = incrementV u ∨
      (∃ i, i < 0x800 ∧ w = incrementV { u with vram := u.vram.write i b }) ∨
      w = incrementV { u with palette := u.palette.write (palIndex u.v) b } := by
  unfold dataWrite at h
  split at h
  · cases h
  · rename_i x heq
    cases h
    unfold ppuMemWrite at heq
    split at heq
    · cases heq; exact .inl rfl
    split at heq
    · split at heq
      · rename_i i hi
        cases heq
        refine .inr (.inl ⟨i, ?_, rfl⟩)
        exact mirrorVram_lt hi ‹_›
      · cases heq
    split at heq
    · cases heq
    · cases heq; exact .inr (.inr rfl)

/-- The rest of a DMA that completes has only moved `OAM` and done what reads do: any property of states that every
read and every OAM-data write keeps is kept. -/
theorem dmaFrom_ok {I : State → Prop} (hread : ∀ {a s b t}, I s → memRead a s = .ok b t → I t)
    (hput : ∀ {s} (b : Byte), I s → I (s.setPpu (oamDataWrite b s.ppu))) :
    ∀ {n i page s t v}, I s → dmaFrom n i page s = .ok v t → I t := by
  intro n
  induction n with
  | zero => intro i page s t v hs h; cases h; exact hs
  | succ n ih =>
    intro i page s t v hs h
    simp only [dmaFrom, Access.andThen_eq_ok] at h
    obtain ⟨b, s1, h1, h2⟩ := h
    exact ih (hput b (hread hs h1)) h2

/-- The same of a DMA that ends in a fatal read. -/
theorem dmaFrom_fatal {I : State → Prop} (hread : ∀ {a s b t}, I s → memRead a s = .ok b t → I t)
    (hput : ∀ {s} (b : Byte), I s → I (s.setPpu (oamDataWrite b s.ppu))) :
    ∀ {n i page s t k}, I s → dmaFrom n i page s = .fatal k t → I t := by
  intro n
  induction n with
  | zero => intro i page s t k hs h; cases h
  | succ n ih =>
    intro i page s t k hs h
    simp only [dmaFrom, Access.andThen_eq_fatal] at h
    obtain h1 | ⟨b, s1, h1, h2⟩ := h
    · rw [memRead_fatal h1]; exact hs
    · exact ih (hput b (hread hs h1)) h2

/-- A completed write leaves the state, changes one byte of RAM, moves the PPU or the joypad as the rule of its register
says, or is a whole DMA. -/
theorem memWrite_ok {a : Addr} {b : Byte} {s t : State} {n : Nat} (h : memWrite a b s = .ok n t) :
    (n = 0 ∧ (t = s ∨
      t = s.setRam (s.ram.write (a.toNat % 0x800) b) ∨
      t = s.setPpu (controlWrite b s.ppu) ∨ t = s.setPpu (maskWrite b s.ppu) ∨ t = s.setPpu (oamAddrWrite b s.ppu) ∨
      t = s.setPpu (oamDataWrite b s.ppu) ∨ t = s.setPpu (scrollWrite b s.ppu) ∨ t = s.setPpu (addressWrite b s.ppu) ∨
      (∃ u, dataWrite s.cart b s.ppu = .ok u ∧ t = s.setPpu u) ∨ t = s.setJoy (joypadWrite b s.joy))) ∨
    (a = 0x4014 ∧ n = t.cfg.oamDmaCycles ∧ dmaFrom 256 0 b s = .ok () t) := by
  unfold memWrite at h
  split at h
  · cases h; exact .inl ⟨rfl, .inr (.inl rfl)⟩
  split at h
  · unfold ppuRegWrite at h
    split at h
    case h_3 => cases h
    case h_8 =>
      split at h
      · rename_i heq; cases h; exact .inl ⟨rfl, by simp [heq]⟩
      · cases h
    all_goals (cases h; exact .inl ⟨rfl, by simp⟩)
  split at h
  · rename_i ha
    unfold oamDma at h
    rw [Access.andThen_eq_ok] at h
    obtain ⟨v, u, h1, h2⟩ := h
    cases h2
    exact .inr ⟨BitVec.eq_of_toNat_eq ha, rfl, h1⟩
  split at h
  · unfold joypadPortWrite at h
    split at h <;> (cases h; exact .inl ⟨rfl, by simp⟩)
  split at h
  · cases h; exact .inl ⟨rfl, .inl rfl⟩
  · cases h

/-- A fatal write changes nothing, but for a DMA stopped on its way. -/
theorem memWrite_fatal {a : Addr} {b : Byte} {s t : State} {k : FatalKind} (h : memWrite a b s = .fatal k t) :
    t = s ∨ (a = 0x4014 ∧ dmaFrom 256 0 b s = .fatal k t) := by
  unfold memWrite at h
  split at h
  · cases h
  split at h
  · unfold ppuRegWrite at h
    split at h
    case h_3 => cases h; exact .inl rfl
    case h_8 =>
      split at h
      · cases h
      · cases h; exact .inl rfl
    all_goals cases h
  split at h
  · rename_i ha
    unfold oamDma at h
    rw [Access.andThen_eq_fatal] at h
    obtain h1 | ⟨v, u, h1, h2⟩ := h
    · exact .inr ⟨BitVec.eq_of_toNat_eq ha, h1⟩
    · cases h2
  split at h
  · unfold joypadPortWrite at h
    split at h <;> cases h
  split at h
  · cases h
  · cases h; exact .inl rfl

/-! ### Two-byte reads -/

theorem memRead2_of_prg {a : Addr} (h : 0x8000 ≤ a.toNat) (h' : a.toNat < 0xFFFF) (s : State) :
    memRead2 a s = .ok (hilo (prgByte s.cart (a + 1)) (prgByte s.cart a)) s := by
  have h1 : 0x8000 ≤ (a + 1).toNat := by rw [BitVec.toNat_add]; simp; omega
  simp only [memRead2, memRead_of_prg h, memRead_of_prg h1, Access.andThen_ok]
  rfl

end Sys2Proof.Machine
end

