-- ==== Sys2Proof/Laws/Exec.lean ====
section
/-!
SUPPORT. The 232 arms of `exec` by mnemonic and addressing mode: `exec_eq` says that an instruction runs the shape of its
mnemonic on the operand of its mode, so that a proof over all instructions goes by the 72 mnemonics.
-/

namespace Sys2Proof

/-- The operand of a mode that has one. -/
def Mode.operand : Mode → Operand
  | .imm b => .imm b
  | .mem m => .mem m
  | .rel b => .imm b
  | _ => .imm 0

/-- The memory format of a mode that has one. -/
def Mode.memory : Mode → MemMode
  | .mem m => m
  | _ => .zp 0

/-- The displacement of a mode that has one. -/
def Mode.displacement : Mode → Byte
  | .rel b => b
  | _ => 0

/-- The address operand of a mode that has one. -/
def Mode.target : Mode → Addr
  | .mem (.abs w) => w
  | _ => 0

end Sys2Proof

namespace Sys2Proof.Machine

/-- What the instructions of one mnemonic do, by shape (Machine/Operands.lean). -/
inductive Work where
  | reads (f : Byte → State → State)
  | stores (v : State → Byte)
  | modifies (f : Byte → State → Byte × State) (g : Byte → State → State)
  | registers (f : State → State)
  | stack (f : State → Access Unit)
  | branches (cond : State → Bool)
  | jumps
  | transfers (f : Addr → State → Access Nat)
  | halts
  | faults

/-- The work of a mnemonic. -/
def workOf : Mnemonic → Work
  | .lda => .reads loadA
  | .ldx => .reads loadX
  | .ldy => .reads loadY
  | .sta => .stores (·.a)
  | .stx => .stores (·.x)
  | .sty => .stores (·.y)
  | .tax => .registers fun s => loadX s.a s
  | .tay => .registers fun s => loadY s.a s
  | .txa => .registers fun s => loadA s.x s
  | .tya => .registers fun s => loadA s.y s
  | .txs => .registers copyXToSp
  | .tsx => .registers fun s => loadX s.sp s
  | .adc => .reads addWithCarry
  | .sbc => .reads subtractWithCarry
  | .and => .reads andA
  | .ora => .reads orA
  | .eor => .reads eorA
  | .bit => .reads bitTest
  | .cmp => .reads fun m s => compareWith s.a m s
  | .cpx => .reads fun m s => compareWith s.x m s
  | .cpy => .reads fun m s => compareWith s.y m s
  | .inc => .modifies incByte flagsOfResult
  | .dec => .modifies decByte flagsOfResult
  | .inx => .registers fun s => (s.setX (s.x + 1)).setZN (s.x + 1)
  | .iny => .registers fun s => (s.setY (s.y + 1)).setZN (s.y + 1)
  | .dex => .registers fun s => (s.setX (s.x - 1)).setZN (s.x - 1)
  | .dey => .registers fun s => (s.setY (s.y - 1)).setZN (s.y - 1)
  | .asl => .modifies aslByte flagsOfResult
  | .lsr => .modifies lsrByte flagsOfResult
  | .rol => .modifies rolByte flagsOfResult
  | .ror => .modifies rorByte flagsOfResult
  | .bpl => .branches fun s => !s.flag .n
  | .bmi => .branches fun s => s.flag .n
  | .bvc => .branches fun s => !s.flag .v
  | .bvs => .branches fun s => s.flag .v
  | .bcc => .branches fun s => !s.flag .c
  | .bcs => .branches fun s => s.flag .c
  | .bne => .branches fun s => !s.flag .z
  | .beq => .branches fun s => s.flag .z
  | .jmp => .jumps
  | .jsr => .transfers callSubroutine
  | .rts => .transfers fun _ => returnFromSubroutine
  | .rti => .transfers fun _ => returnFromInterrupt
  | .brk => .halts
  | .pha => .stack fun s => push s.a s
  | .php => .stack fun s => push (phpPushedP s.p) s
  | .pla => .stack pullA
  | .plp => .stack pullP
  | .clc => .registers fun s => s.setFlag .c false
  | .sec => .registers fun s => s.setFlag .c true
  | .cli => .registers fun s => s.setFlag .i false
  | .sei => .registers fun s => s.setFlag .i true
  | .cld => .registers fun s => s.setFlag .d false
  | .sed => .registers fun s => s.setFlag .d true
  | .clv => .registers fun s => s.setFlag .v false
  | .nop => .registers id
  | .lax => .reads loadAX
  | .sax => .stores andAX
  | .dcp => .modifies decByte fun r s => compareWith s.a r s
  | .isb => .modifies incByte subtractWithCarry
  | .slo => .modifies aslByte orA
  | .rla => .modifies rolByte andA
  | .sre => .modifies lsrByte eorA
  | .rra => .modifies rorByte addWithCarry
  | .anc => .reads andCopyingCarry
  | .alr => .reads andShiftRight
  | .arr => .reads andRotateRight
  | .axs => .reads subtractFromAX
  | .sbcU => .reads subtractWithCarry
  | .las => .reads loadAndSp
  | .nopU => .reads discardOperand
  | .ill => .faults

/-- Runs a work on the operand of a mode, for the opcode byte `op`. -/
def runWork (op : Byte) (w : Work) (m : Mode) (s : State) : Host.Outcome State Fault Refusal :=
  match w with
  | .reads f => readOp op f m.operand s
  | .stores v => storeOp op v m.memory s
  | .modifies f g => if m = .acc then registerOp op (onAccumulator f) s else rmwOp op f g m.memory s
  | .registers f => registerOp op f s
  | .stack f => stackOp op f s
  | .branches cond => jumpOp op (fun s => branchIf (cond s) m.displacement s) s
  | .jumps => jumpOp op (jumpTo m.memory) s
  | .transfers f => jumpOp op (f m.target) s
  | .halts => halt op s
  | .faults => illegalOpcode op s

theorem exec_eq (i : Instr) (s : State) : exec i s = runWork i.opcode (workOf i.mnemonic) i.mode s := by
  cases i <;> (simp only [Instr.opcode, Instr.mnemonic, Instr.mode]; rfl)

end Sys2Proof.Machine
end

