-- ==== Sys2Proof/Laws/Flags.lean ====
section
/-!
SUPPORT. The status byte: reading a flag after writing one, and the byte the stack instructions restore.
-/

namespace Sys2Proof.Machine

theorem Flag.bit_lt (f : Flag) : f.bit < 8 := by cases f <;> decide

theorem Flag.bit_inj {f g : Flag} : f.bit = g.bit ↔ f = g := by cases f <;> cases g <;> decide

theorem Flag.mask_getLsbD (f : Flag) (i : Nat) : f.mask.getLsbD i = decide (i = f.bit) := by
  have h := f.bit_lt
  simp only [Flag.mask, BitVec.getLsbD_shiftLeft, BitVec.getLsbD_one]
  by_cases h1 : i = f.bit
  · subst h1; simp [h]
  · have : ¬ (i - f.bit = 0 ∧ f.bit ≤ i) := by omega
    by_cases h2 : i < f.bit
    · simp [h2, h1]
    · have h3 : i - f.bit ≠ 0 := by omega
      simp [h1, h3]

/-- A flag read after a write is the written value, or is as it was. -/
@[simp] theorem getFlag_putFlag (p : Byte) (f g : Flag) (b : Bool) :
    getFlag (putFlag p f b) g = if g = f then b else getFlag p g := by
  have hg := g.bit_lt
  have hm := f.mask_getLsbD g.bit
  unfold getFlag putFlag
  cases b <;> by_cases h : g = f <;>
    simp only [h, Flag.bit_inj, BitVec.getLsbD_or, BitVec.getLsbD_and, BitVec.getLsbD_not, if_true, if_false,
      Bool.false_eq_true] at * <;>
    simp_all

@[simp] theorem getFlag_restoredP_b1 (b : Byte) : getFlag (restoredP b) .b1 = false := by
  simp [getFlag, restoredP, Flag.bit]

@[simp] theorem getFlag_restoredP_b2 (b : Byte) : getFlag (restoredP b) .b2 = true := by
  simp [getFlag, restoredP, Flag.bit]

theorem getFlag_znFlags (p v : Byte) (f : Flag) :
    getFlag (znFlags p v) f = if f = .n then v.getLsbD 7 else if f = .z then v == 0 else getFlag p f := by
  simp [znFlags]

theorem State.flag_eq (s : State) (f : Flag) : s.flag f = getFlag s.p f := rfl

/-- A byte whose Break1 bit is 0 and Break2 bit is 1 is what the stack restores of it. -/
theorem restoredP_eq {p : Byte} (h1 : getFlag p .b1 = false) (h2 : getFlag p .b2 = true) : restoredP p = p := by
  revert p
  decide

end Sys2Proof.Machine
end

