-- ==== Sys2Proof/Laws/Ops.lean ====
section
/-!
SUPPORT. The shared operations over the stack and page 0, each as one equation: they are accesses to `RAM` and never fatal
(10_state.md R26 to R29, 20_memory.md R64).
-/

namespace Sys2Proof.Machine

theorem toNat_zext16 (b : Byte) : (zext16 b).toNat = b.toNat := by
  have := b.isLt
  simp only [zext16, BitVec.toNat_setWidth]
  omega

theorem toNat_hilo (hi lo : Byte) : (hilo hi lo).toNat = 256 * hi.toNat + lo.toNat := by
  have := lo.isLt
  simp only [hilo, BitVec.toNat_append, Nat.shiftLeft_eq]
  rw [Nat.mul_comm, ← Nat.two_pow_add_eq_or_of_lt this]

theorem toNat_stackAddr (sp : Byte) : (stackAddr sp).toNat = 256 + sp.toNat := by
  rw [stackAddr, toNat_hilo]
  rfl

theorem hilo_hiByte_loByte (w : Addr) : hilo (hiByte w) (loByte w) = w := by
  unfold hilo hiByte loByte
  exact BitVec.extractLsb'_append_extractLsb'

@[simp] theorem loByte_hilo (hi lo : Byte) : loByte (hilo hi lo) = lo := BitVec.extractLsb'_append_eq_right

@[simp] theorem hiByte_hilo (hi lo : Byte) : hiByte (hilo hi lo) = hi := BitVec.extractLsb'_append_eq_left

/-- A read of page 0 is a read of `RAM`. -/
theorem memRead_zeroPage (b : Byte) (s : State) : memRead (zext16 b) s = .ok (s.ram.read b.toNat) s := by
  have := b.isLt
  rw [memRead_of_ram (by rw [toNat_zext16]; omega), toNat_zext16, Nat.mod_eq_of_lt (by omega)]

theorem push_eq (b : Byte) (s : State) :
    push b s = .ok () ((s.setRam (s.ram.write (256 + s.sp.toNat) b)).setSp (s.sp - 1)) := by
  have := s.sp.isLt
  unfold push
  rw [memWrite_of_ram (by rw [toNat_stackAddr]; omega), toNat_stackAddr, Nat.mod_eq_of_lt (by omega)]
  rfl

theorem pop_eq (s : State) : pop s = .ok (s.ram.read (256 + (s.sp + 1).toNat)) (s.setSp (s.sp + 1)) := by
  have := (s.sp + 1).isLt
  unfold pop
  rw [memRead_of_ram (by rw [toNat_stackAddr]; omega), toNat_stackAddr, Nat.mod_eq_of_lt (by omega)]
  rfl

theorem readPointer_zeroPage (lo hi : Byte) (s : State) :
    readPointer (zext16 lo) (zext16 hi) s = .ok (hilo (s.ram.read hi.toNat) (s.ram.read lo.toNat)) s := by
  simp only [readPointer, memRead_zeroPage, Access.andThen_ok]

end Sys2Proof.Machine
end

