-- ==== Sys2Proof/Laws/PerInstr.lean ====
section
/-!
SUPPORT. One lemma per instruction, for statements about every instruction's encoding: the record of its opcode byte names
the addressing mode the encoder gives it (30_encoding.md R121, R132, R133, R138).
-/

namespace Sys2Proof

/-- The format of a mode without its operand bytes (R121). -/
def Mode.name : Mode → ModeName
  | .imp => .imp
  | .acc => .acc
  | .imm _ => .imm
  | .mem (.zp _) => .zp
  | .mem (.zpx _) => .zpx
  | .mem (.zpy _) => .zpy
  | .mem (.abs _) => .abs
  | .mem (.absx _) => .absx
  | .mem (.absy _) => .absy
  | .mem (.indx _) => .indx
  | .mem (.indy _) => .indy
  | .mem (.ind _) => .ind
  | .rel _ => .rel

end Sys2Proof

namespace Sys2Proof.Laws.RowMode

/-- The two tables agree on the instruction's mode. -/
def Statement (i : Instr) : Prop := i.wf = true → (rowOf i.opcode).mode = i.mode.name

theorem illegal_rows : illegalOpcodes.all (fun op => (rowOf op).mode == .imp) = true := by decide

theorem ldaImm (b : Byte) : Statement (.ldaImm b) := fun _ => (rfl : (rowOf 0xA9).mode = .imm)
theorem ldaZp (b : Byte) : Statement (.ldaZp b) := fun _ => (rfl : (rowOf 0xA5).mode = .zp)
theorem ldaZpx (b : Byte) : Statement (.ldaZpx b) := fun _ => (rfl : (rowOf 0xB5).mode = .zpx)
theorem ldaAbs (w : Addr) : Statement (.ldaAbs w) := fun _ => (rfl : (rowOf 0xAD).mode = .abs)
theorem ldaAbsx (w : Addr) : Statement (.ldaAbsx w) := fun _ => (rfl : (rowOf 0xBD).mode = .absx)
theorem ldaAbsy (w : Addr) : Statement (.ldaAbsy w) := fun _ => (rfl : (rowOf 0xB9).mode = .absy)
theorem ldaIndx (b : Byte) : Statement (.ldaIndx b) := fun _ => (rfl : (rowOf 0xA1).mode = .indx)
theorem ldaIndy (b : Byte) : Statement (.ldaIndy b) := fun _ => (rfl : (rowOf 0xB1).mode = .indy)
theorem ldxImm (b : Byte) : Statement (.ldxImm b) := fun _ => (rfl : (rowOf 0xA2).mode = .imm)
theorem ldxZp (b : Byte) : Statement (.ldxZp b) := fun _ => (rfl : (rowOf 0xA6).mode = .zp)
theorem ldxZpy (b : Byte) : Statement (.ldxZpy b) := fun _ => (rfl : (rowOf 0xB6).mode = .zpy)
theorem ldxAbs (w : Addr) : Statement (.ldxAbs w) := fun _ => (rfl : (rowOf 0xAE).mode = .abs)
theorem ldxAbsy (w : Addr) : Statement (.ldxAbsy w) := fun _ => (rfl : (rowOf 0xBE).mode = .absy)
theorem ldyImm (b : Byte) : Statement (.ldyImm b) := fun _ => (rfl : (rowOf 0xA0).mode = .imm)
theorem ldyZp (b : Byte) : Statement (.ldyZp b) := fun _ => (rfl : (rowOf 0xA4).mode = .zp)
theorem ldyZpx (b : Byte) : Statement (.ldyZpx b) := fun _ => (rfl : (rowOf 0xB4).mode = .zpx)
theorem ldyAbs (w : Addr) : Statement (.ldyAbs w) := fun _ => (rfl : (rowOf 0xAC).mode = .abs)
theorem ldyAbsx (w : Addr) : Statement (.ldyAbsx w) := fun _ => (rfl : (rowOf 0xBC).mode = .absx)
theorem staZp (b : Byte) : Statement (.staZp b) := fun _ => (rfl : (rowOf 0x85).mode = .zp)
theorem staZpx (b : Byte) : Statement (.staZpx b) := fun _ => (rfl : (rowOf 0x95).mode = .zpx)
theorem staAbs (w : Addr) : Statement (.staAbs w) := fun _ => (rfl : (rowOf 0x8D).mode = .abs)
theorem staAbsx (w : Addr) : Statement (.staAbsx w) := fun _ => (rfl : (rowOf 0x9D).mode = .absx)
theorem staAbsy (w : Addr) : Statement (.staAbsy w) := fun _ => (rfl : (rowOf 0x99).mode = .absy)
theorem staIndx (b : Byte) : Statement (.staIndx b) := fun _ => (rfl : (rowOf 0x81).mode = .indx)
theorem staIndy (b : Byte) : Statement (.staIndy b) := fun _ => (rfl : (rowOf 0x91).mode = .indy)
theorem stxZp (b : Byte) : Statement (.stxZp b) := fun _ => (rfl : (rowOf 0x86).mode = .zp)
theorem stxZpy (b : Byte) : Statement (.stxZpy b) := fun _ => (rfl : (rowOf 0x96).mode = .zpy)
theorem stxAbs (w : Addr) : Statement (.stxAbs w) := fun _ => (rfl : (rowOf 0x8E).mode = .abs)
theorem styZp (b : Byte) : Statement (.styZp b) := fun _ => (rfl : (rowOf 0x84).mode = .zp)
theorem styZpx (b : Byte) : Statement (.styZpx b) := fun _ => (rfl : (rowOf 0x94).mode = .zpx)
theorem styAbs (w : Addr) : Statement (.styAbs w) := fun _ => (rfl : (rowOf 0x8C).mode = .abs)
theorem tax : Statement .tax := fun _ => rfl
theorem tay : Statement .tay := fun _ => rfl
theorem txa : Statement .txa := fun _ => rfl
theorem tya : Statement .tya := fun _ => rfl
theorem txs : Statement .txs := fun _ => rfl
theorem tsx : Statement .tsx := fun _ => rfl
theorem adcImm (b : Byte) : Statement (.adcImm b) := fun _ => (rfl : (rowOf 0x69).mode = .imm)
theorem adcZp (b : Byte) : Statement (.adcZp b) := fun _ => (rfl : (rowOf 0x65).mode = .zp)
theorem adcZpx (b : Byte) : Statement (.adcZpx b) := fun _ => (rfl : (rowOf 0x75).mode = .zpx)
theorem adcAbs (w : Addr) : Statement (.adcAbs w) := fun _ => (rfl : (rowOf 0x6D).mode = .abs)
theorem adcAbsx (w : Addr) : Statement (.adcAbsx w) := fun _ => (rfl : (rowOf 0x7D).mode = .absx)
theorem adcAbsy (w : Addr) : Statement (.adcAbsy w) := fun _ => (rfl : (rowOf 0x79).mode = .absy)
theorem adcIndx (b : Byte) : Statement (.adcIndx b) := fun _ => (rfl : (rowOf 0x61).mode = .indx)
theorem adcIndy (b : Byte) : Statement (.adcIndy b) := fun _ => (rfl : (rowOf 0x71).mode = .indy)
theorem sbcImm (b : Byte) : Statement (.sbcImm b) := fun _ => (rfl : (rowOf 0xE9).mode = .imm)
theorem sbcZp (b : Byte) : Statement (.sbcZp b) := fun _ => (rfl : (rowOf 0xE5).mode = .zp)
theorem sbcZpx (b : Byte) : Statement (.sbcZpx b) := fun _ => (rfl : (rowOf 0xF5).mode = .zpx)
theorem sbcAbs (w : Addr) : Statement (.sbcAbs w) := fun _ => (rfl : (rowOf 0xED).mode = .abs)
theorem sbcAbsx (w : Addr) : Statement (.sbcAbsx w) := fun _ => (rfl : (rowOf 0xFD).mode = .absx)
theorem sbcAbsy (w : Addr) : Statement (.sbcAbsy w) := fun _ => (rfl : (rowOf 0xF9).mode = .absy)
theorem sbcIndx (b : Byte) : Statement (.sbcIndx b) := fun _ => (rfl : (rowOf 0xE1).mode = .indx)
theorem sbcIndy (b : Byte) : Statement (.sbcIndy b) := fun _ => (rfl : (rowOf 0xF1).mode = .indy)
theorem andImm (b : Byte) : Statement (.andImm b) := fun _ => (rfl : (rowOf 0x29).mode = .imm)
theorem andZp (b : Byte) : Statement (.andZp b) := fun _ => (rfl : (rowOf 0x25).mode = .zp)
theorem andZpx (b : Byte) : Statement (.andZpx b) := fun _ => (rfl : (rowOf 0x35).mode = .zpx)
theorem andAbs (w : Addr) : Statement (.andAbs w) := fun _ => (rfl : (rowOf 0x2D).mode = .abs)
theorem andAbsx (w : Addr) : Statement (.andAbsx w) := fun _ => (rfl : (rowOf 0x3D).mode = .absx)
theorem andAbsy (w : Addr) : Statement (.andAbsy w) := fun _ => (rfl : (rowOf 0x39).mode = .absy)
theorem andIndx (b : Byte) : Statement (.andIndx b) := fun _ => (rfl : (rowOf 0x21).mode = .indx)
theorem andIndy (b : Byte) : Statement (.andIndy b) := fun _ => (rfl : (rowOf 0x31).mode = .indy)
theorem oraImm (b : Byte) : Statement (.oraImm b) := fun _ => (rfl : (rowOf 0x09).mode = .imm)
theorem oraZp (b : Byte) : Statement (.oraZp b) := fun _ => (rfl : (rowOf 0x05).mode = .zp)
theorem oraZpx (b : Byte) : Statement (.oraZpx b) := fun _ => (rfl : (rowOf 0x15).mode = .zpx)
theorem oraAbs (w : Addr) : Statement (.oraAbs w) := fun _ => (rfl : (rowOf 0x0D).mode = .abs)
theorem oraAbsx (w : Addr) : Statement (.oraAbsx w) := fun _ => (rfl : (rowOf 0x1D).mode = .absx)
theorem oraAbsy (w : Addr) : Statement (.oraAbsy w) := fun _ => (rfl : (rowOf 0x19).mode = .absy)
theorem oraIndx (b : Byte) : Statement (.oraIndx b) := fun _ => (rfl : (rowOf 0x01).mode = .indx)
theorem oraIndy (b : Byte) : Statement (.oraIndy b) := fun _ => (rfl : (rowOf 0x11).mode = .indy)
theorem eorImm (b : Byte) : Statement (.eorImm b) := fun _ => (rfl : (rowOf 0x49).mode = .imm)
theorem eorZp (b : Byte) : Statement (.eorZp b) := fun _ => (rfl : (rowOf 0x45).mode = .zp)
theorem eorZpx (b : Byte) : Statement (.eorZpx b) := fun _ => (rfl : (rowOf 0x55).mode = .zpx)
theorem eorAbs (w : Addr) : Statement (.eorAbs w) := fun _ => (rfl : (rowOf 0x4D).mode = .abs)
theorem eorAbsx (w : Addr) : Statement (.eorAbsx w) := fun _ => (rfl : (rowOf 0x5D).mode = .absx)
theorem eorAbsy (w : Addr) : Statement (.eorAbsy w) := fun _ => (rfl : (rowOf 0x59).mode = .absy)
theorem eorIndx (b : Byte) : Statement (.eorIndx b) := fun _ => (rfl : (rowOf 0x41).mode = .indx)
theorem eorIndy (b : Byte) : Statement (.eorIndy b) := fun _ => (rfl : (rowOf 0x51).mode = .indy)
theorem bitZp (b : Byte) : Statement (.bitZp b) := fun _ => (rfl : (rowOf 0x24).mode = .zp)
theorem bitAbs (w : Addr) : Statement (.bitAbs w) := fun _ => (rfl : (rowOf 0x2C).mode = .abs)
theorem cmpImm (b : Byte) : Statement (.cmpImm b) := fun _ => (rfl : (rowOf 0xC9).mode = .imm)
theorem cmpZp (b : Byte) : Statement (.cmpZp b) := fun _ => (rfl : (rowOf 0xC5).mode = .zp)
theorem cmpZpx (b : Byte) : Statement (.cmpZpx b) := fun _ => (rfl : (rowOf 0xD5).mode = .zpx)
theorem cmpAbs (w : Addr) : Statement (.cmpAbs w) := fun _ => (rfl : (rowOf 0xCD).mode = .abs)
theorem cmpAbsx (w : Addr) : Statement (.cmpAbsx w) := fun _ => (rfl : (rowOf 0xDD).mode = .absx)
theorem cmpAbsy (w : Addr) : Statement (.cmpAbsy w) := fun _ => (rfl : (rowOf 0xD9).mode = .absy)
theorem cmpIndx (b : Byte) : Statement (.cmpIndx b) := fun _ => (rfl : (rowOf 0xC1).mode = .indx)
theorem cmpIndy (b : Byte) : Statement (.cmpIndy b) := fun _ => (rfl : (rowOf 0xD1).mode = .indy)
theorem cpxImm (b : Byte) : Statement (.cpxImm b) := fun _ => (rfl : (rowOf 0xE0).mode = .imm)
theorem cpxZp (b : Byte) : Statement (.cpxZp b) := fun _ => (rfl : (rowOf 0xE4).mode = .zp)
theorem cpxAbs (w : Addr) : Statement (.cpxAbs w) := fun _ => (rfl : (rowOf 0xEC).mode = .abs)
theorem cpyImm (b : Byte) : Statement (.cpyImm b) := fun _ => (rfl : (rowOf 0xC0).mode = .imm)
theorem cpyZp (b : Byte) : Statement (.cpyZp b) := fun _ => (rfl : (rowOf 0xC4).mode = .zp)
theorem cpyAbs (w : Addr) : Statement (.cpyAbs w) := fun _ => (rfl : (rowOf 0xCC).mode = .abs)
theorem incZp (b : Byte) : Statement (.incZp b) := fun _ => (rfl : (rowOf 0xE6).mode = .zp)
theorem incZpx (b : Byte) : Statement (.incZpx b) := fun _ => (rfl : (rowOf 0xF6).mode = .zpx)
theorem incAbs (w : Addr) : Statement (.incAbs w) := fun _ => (rfl : (rowOf 0xEE).mode = .abs)
theorem incAbsx (w : Addr) : Statement (.incAbsx w) := fun _ => (rfl : (rowOf 0xFE).mode = .absx)
theorem decZp (b : Byte) : Statement (.decZp b) := fun _ => (rfl : (rowOf 0xC6).mode = .zp)
theorem decZpx (b : Byte) : Statement (.decZpx b) := fun _ => (rfl : (rowOf 0xD6).mode = .zpx)
theorem decAbs (w : Addr) : Statement (.decAbs w) := fun _ => (rfl : (rowOf 0xCE).mode = .abs)
theorem decAbsx (w : Addr) : Statement (.decAbsx w) := fun _ => (rfl : (rowOf 0xDE).mode = .absx)
theorem inx : Statement .inx := fun _ => rfl
theorem iny : Statement .iny := fun _ => rfl
theorem dex : Statement .dex := fun _ => rfl
theorem dey : Statement .dey := fun _ => rfl
theorem aslAcc : Statement .aslAcc := fun _ => rfl
theorem aslZp (b : Byte) : Statement (.aslZp b) := fun _ => (rfl : (rowOf 0x06).mode = .zp)
theorem aslZpx (b : Byte) : Statement (.aslZpx b) := fun _ => (rfl : (rowOf 0x16).mode = .zpx)
theorem aslAbs (w : Addr) : Statement (.aslAbs w) := fun _ => (rfl : (rowOf 0x0E).mode = .abs)
theorem aslAbsx (w : Addr) : Statement (.aslAbsx w) := fun _ => (rfl : (rowOf 0x1E).mode = .absx)
theorem lsrAcc : Statement .lsrAcc := fun _ => rfl
theorem lsrZp (b : Byte) : Statement (.lsrZp b) := fun _ => (rfl : (rowOf 0x46).mode = .zp)
theorem lsrZpx (b : Byte) : Statement (.lsrZpx b) := fun _ => (rfl : (rowOf 0x56).mode = .zpx)
theorem lsrAbs (w : Addr) : Statement (.lsrAbs w) := fun _ => (rfl : (rowOf 0x4E).mode = .abs)
theorem lsrAbsx (w : Addr) : Statement (.lsrAbsx w) := fun _ => (rfl : (rowOf 0x5E).mode = .absx)
theorem rolAcc : Statement .rolAcc := fun _ => rfl
theorem rolZp (b : Byte) : Statement (.rolZp b) := fun _ => (rfl : (rowOf 0x26).mode = .zp)
theorem rolZpx (b : Byte) : Statement (.rolZpx b) := fun _ => (rfl : (rowOf 0x36).mode = .zpx)
theorem rolAbs (w : Addr) : Statement (.rolAbs w) := fun _ => (rfl : (rowOf 0x2E).mode = .abs)
theorem rolAbsx (w : Addr) : Statement (.rolAbsx w) := fun _ => (rfl : (rowOf 0x3E).mode = .absx)
theorem rorAcc : Statement .rorAcc := fun _ => rfl
theorem rorZp (b : Byte) : Statement (.rorZp b) := fun _ => (rfl : (rowOf 0x66).mode = .zp)
theorem rorZpx (b : Byte) : Statement (.rorZpx b) := fun _ => (rfl : (rowOf 0x76).mode = .zpx)
theorem rorAbs (w : Addr) : Statement (.rorAbs w) := fun _ => (rfl : (rowOf 0x6E).mode = .abs)
theorem rorAbsx (w : Addr) : Statement (.rorAbsx w) := fun _ => (rfl : (rowOf 0x7E).mode = .absx)
theorem bpl (b : Byte) : Statement (.bpl b) := fun _ => (rfl : (rowOf 0x10).mode = .rel)
theorem bmi (b : Byte) : Statement (.bmi b) := fun _ => (rfl : (rowOf 0x30).mode = .rel)
theorem bvc (b : Byte) : Statement (.bvc b) := fun _ => (rfl : (rowOf 0x50).mode = .rel)
theorem bvs (b : Byte) : Statement (.bvs b) := fun _ => (rfl : (rowOf 0x70).mode = .rel)
theorem bcc (b : Byte) : Statement (.bcc b) := fun _ => (rfl : (rowOf 0x90).mode = .rel)
theorem bcs (b : Byte) : Statement (.bcs b) := fun _ => (rfl : (rowOf 0xB0).mode = .rel)
theorem bne (b : Byte) : Statement (.bne b) := fun _ => (rfl : (rowOf 0xD0).mode = .rel)
theorem beq (b : Byte) : Statement (.beq b) := fun _ => (rfl : (rowOf 0xF0).mode = .rel)
theorem jmpAbs (w : Addr) : Statement (.jmpAbs w) := fun _ => (rfl : (rowOf 0x4C).mode = .abs)
theorem jmpInd (w : Addr) : Statement (.jmpInd w) := fun _ => (rfl : (rowOf 0x6C).mode = .ind)
theorem jsrAbs (w : Addr) : Statement (.jsrAbs w) := fun _ => (rfl : (rowOf 0x20).mode = .abs)
theorem rts : Statement .rts := fun _ => rfl
theorem rti : Statement .rti := fun _ => rfl
theorem brk : Statement .brk := fun _ => rfl
theorem pha : Statement .pha := fun _ => rfl
theorem php : Statement .php := fun _ => rfl
theorem pla : Statement .pla := fun _ => rfl
theorem plp : Statement .plp := fun _ => rfl
theorem clc : Statement .clc := fun _ => rfl
theorem sec : Statement .sec := fun _ => rfl
theorem cli : Statement .cli := fun _ => rfl
theorem sei : Statement .sei := fun _ => rfl
theorem cld : Statement .cld := fun _ => rfl
theorem sed : Statement .sed := fun _ => rfl
theorem clv : Statement .clv := fun _ => rfl
theorem nop : Statement .nop := fun _ => rfl
theorem laxZp (b : Byte) : Statement (.laxZp b) := fun _ => (rfl : (rowOf 0xA7).mode = .zp)
theorem laxZpy (b : Byte) : Statement (.laxZpy b) := fun _ => (rfl : (rowOf 0xB7).mode = .zpy)
theorem laxAbs (w : Addr) : Statement (.laxAbs w) := fun _ => (rfl : (rowOf 0xAF).mode = .abs)
theorem laxAbsy (w : Addr) : Statement (.laxAbsy w) := fun _ => (rfl : (rowOf 0xBF).mode = .absy)
theorem laxIndx (b : Byte) : Statement (.laxIndx b) := fun _ => (rfl : (rowOf 0xA3).mode = .indx)
theorem laxIndy (b : Byte) : Statement (.laxIndy b) := fun _ => (rfl : (rowOf 0xB3).mode = .indy)
theorem saxZp (b : Byte) : Statement (.saxZp b) := fun _ => (rfl : (rowOf 0x87).mode = .zp)
theorem saxZpy (b : Byte) : Statement (.saxZpy b) := fun _ => (rfl : (rowOf 0x97).mode = .zpy)
theorem saxAbs (w : Addr) : Statement (.saxAbs w) := fun _ => (rfl : (rowOf 0x8F).mode = .abs)
theorem saxIndx (b : Byte) : Statement (.saxIndx b) := fun _ => (rfl : (rowOf 0x83).mode = .indx)
theorem dcpZp (b : Byte) : Statement (.dcpZp b) := fun _ => (rfl : (rowOf 0xC7).mode = .zp)
theorem dcpZpx (b : Byte) : Statement (.dcpZpx b) := fun _ => (rfl : (rowOf 0xD7).mode = .zpx)
theorem dcpAbs (w : Addr) : Statement (.dcpAbs w) := fun _ => (rfl : (rowOf 0xCF).mode = .abs)
theorem dcpAbsx (w : Addr) : Statement (.dcpAbsx w) := fun _ => (rfl : (rowOf 0xDF).mode = .absx)
theorem dcpAbsy (w : Addr) : Statement (.dcpAbsy w) := fun _ => (rfl : (rowOf 0xDB).mode = .absy)
theorem dcpIndx (b : Byte) : Statement (.dcpIndx b) := fun _ => (rfl : (rowOf 0xC3).mode = .indx)
theorem dcpIndy (b : Byte) : Statement (.dcpIndy b) := fun _ => (rfl : (rowOf 0xD3).mode = .indy)
theorem isbZp (b : Byte) : Statement (.isbZp b) := fun _ => (rfl : (rowOf 0xE7).mode = .zp)
theorem isbZpx (b : Byte) : Statement (.isbZpx b) := fun _ => (rfl : (rowOf 0xF7).mode = .zpx)
theorem isbAbs (w : Addr) : Statement (.isbAbs w) := fun _ => (rfl : (rowOf 0xEF).mode = .abs)
theorem isbAbsx (w : Addr) : Statement (.isbAbsx w) := fun _ => (rfl : (rowOf 0xFF).mode = .absx)
theorem isbAbsy (w : Addr) : Statement (.isbAbsy w) := fun _ => (rfl : (rowOf 0xFB).mode = .absy)
theorem isbIndx (b : Byte) : Statement (.isbIndx b) := fun _ => (rfl : (rowOf 0xE3).mode = .indx)
theorem isbIndy (b : Byte) : Statement (.isbIndy b) := fun _ => (rfl : (rowOf 0xF3).mode = .indy)
theorem sloZp (b : Byte) : Statement (.sloZp b) := fun _ => (rfl : (rowOf 0x07).mode = .zp)
theorem sloZpx (b : Byte) : Statement (.sloZpx b) := fun _ => (rfl : (rowOf 0x17).mode = .zpx)
theorem sloAbs (w : Addr) : Statement (.sloAbs w) := fun _ => (rfl : (rowOf 0x0F).mode = .abs)
theorem sloAbsx (w : Addr) : Statement (.sloAbsx w) := fun _ => (rfl : (rowOf 0x1F).mode = .absx)
theorem sloAbsy (w : Addr) : Statement (.sloAbsy w) := fun _ => (rfl : (rowOf 0x1B).mode = .absy)
theorem sloIndx (b : Byte) : Statement (.sloIndx b) := fun _ => (rfl : (rowOf 0x03).mode = .indx)
theorem sloIndy (b : Byte) : Statement (.sloIndy b) := fun _ => (rfl : (rowOf 0x13).mode = .indy)
theorem rlaZp (b : Byte) : Statement (.rlaZp b) := fun _ => (rfl : (rowOf 0x27).mode = .zp)
theorem rlaZpx (b : Byte) : Statement (.rlaZpx b) := fun _ => (rfl : (rowOf 0x37).mode = .zpx)
theorem rlaAbs (w : Addr) : Statement (.rlaAbs w) := fun _ => (rfl : (rowOf 0x2F).mode = .abs)
theorem rlaAbsx (w : Addr) : Statement (.rlaAbsx w) := fun _ => (rfl : (rowOf 0x3F).mode = .absx)
theorem rlaAbsy (w : Addr) : Statement (.rlaAbsy w) := fun _ => (rfl : (rowOf 0x3B).mode = .absy)
theorem rlaIndx (b : Byte) : Statement (.rlaIndx b) := fun _ => (rfl : (rowOf 0x23).mode = .indx)
theorem rlaIndy (b : Byte) : Statement (.rlaIndy b) := fun _ => (rfl : (rowOf 0x33).mode = .indy)
theorem sreZp (b : Byte) : Statement (.sreZp b) := fun _ => (rfl : (rowOf 0x47).mode = .zp)
theorem sreZpx (b : Byte) : Statement (.sreZpx b) := fun _ => (rfl : (rowOf 0x57).mode = .zpx)
theorem sreAbs (w : Addr) : Statement (.sreAbs w) := fun _ => (rfl : (rowOf 0x4F).mode = .abs)
theorem sreAbsx (w : Addr) : Statement (.sreAbsx w) := fun _ => (rfl : (rowOf 0x5F).mode = .absx)
theorem sreAbsy (w : Addr) : Statement (.sreAbsy w) := fun _ => (rfl : (rowOf 0x5B).mode = .absy)
theorem sreIndx (b : Byte) : Statement (.sreIndx b) := fun _ => (rfl : (rowOf 0x43).mode = .indx)
theorem sreIndy (b : Byte) : Statement (.sreIndy b) := fun _ => (rfl : (rowOf 0x53).mode = .indy)
theorem rraZp (b : Byte) : Statement (.rraZp b) := fun _ => (rfl : (rowOf 0x67).mode = .zp)
theorem rraZpx (b : Byte) : Statement (.rraZpx b) := fun _ => (rfl : (rowOf 0x77).mode = .zpx)
theorem rraAbs (w : Addr) : Statement (.rraAbs w) := fun _ => (rfl : (rowOf 0x6F).mode = .abs)
theorem rraAbsx (w : Addr) : Statement (.rraAbsx w) := fun _ => (rfl : (rowOf 0x7F).mode = .absx)
theorem rraAbsy (w : Addr) : Statement (.rraAbsy w) := fun _ => (rfl : (rowOf 0x7B).mode = .absy)
theorem rraIndx (b : Byte) : Statement (.rraIndx b) := fun _ => (rfl : (rowOf 0x63).mode = .indx)
theorem rraIndy (b : Byte) : Statement (.rraIndy b) := fun _ => (rfl : (rowOf 0x73).mode = .indy)
theorem ancImm0B (b : Byte) : Statement (.ancImm0B b) := fun _ => (rfl : (rowOf 0x0B).mode = .imm)
theorem ancImm2B (b : Byte) : Statement (.ancImm2B b) := fun _ => (rfl : (rowOf 0x2B).mode = .imm)
theorem alrImm (b : Byte) : Statement (.alrImm b) := fun _ => (rfl : (rowOf 0x4B).mode = .imm)
theorem arrImm (b : Byte) : Statement (.arrImm b) := fun _ => (rfl : (rowOf 0x6B).mode = .imm)
theorem axsImm (b : Byte) : Statement (.axsImm b) := fun _ => (rfl : (rowOf 0xCB).mode = .imm)
theorem sbcImmEB (b : Byte) : Statement (.sbcImmEB b) := fun _ => (rfl : (rowOf 0xEB).mode = .imm)
theorem lasAbsy (w : Addr) : Statement (.lasAbsy w) := fun _ => (rfl : (rowOf 0xBB).mode = .absy)
theorem nopImm80 (b : Byte) : Statement (.nopImm80 b) := fun _ => (rfl : (rowOf 0x80).mode = .imm)
theorem nopImm82 (b : Byte) : Statement (.nopImm82 b) := fun _ => (rfl : (rowOf 0x82).mode = .imm)
theorem nopImm89 (b : Byte) : Statement (.nopImm89 b) := fun _ => (rfl : (rowOf 0x89).mode = .imm)
theorem nopImmC2 (b : Byte) : Statement (.nopImmC2 b) := fun _ => (rfl : (rowOf 0xC2).mode = .imm)
theorem nopImmE2 (b : Byte) : Statement (.nopImmE2 b) := fun _ => (rfl : (rowOf 0xE2).mode = .imm)
theorem nopZp04 (b : Byte) : Statement (.nopZp04 b) := fun _ => (rfl : (rowOf 0x04).mode = .zp)
theorem nopZp44 (b : Byte) : Statement (.nopZp44 b) := fun _ => (rfl : (rowOf 0x44).mode = .zp)
theorem nopZp64 (b : Byte) : Statement (.nopZp64 b) := fun _ => (rfl : (rowOf 0x64).mode = .zp)
theorem nopZpx14 (b : Byte) : Statement (.nopZpx14 b) := fun _ => (rfl : (rowOf 0x14).mode = .zpx)
theorem nopZpx34 (b : Byte) : Statement (.nopZpx34 b) := fun _ => (rfl : (rowOf 0x34).mode = .zpx)
theorem nopZpx54 (b : Byte) : Statement (.nopZpx54 b) := fun _ => (rfl : (rowOf 0x54).mode = .zpx)
theorem nopZpx74 (b : Byte) : Statement (.nopZpx74 b) := fun _ => (rfl : (rowOf 0x74).mode = .zpx)
theorem nopZpxD4 (b : Byte) : Statement (.nopZpxD4 b) := fun _ => (rfl : (rowOf 0xD4).mode = .zpx)
theorem nopZpxF4 (b : Byte) : Statement (.nopZpxF4 b) := fun _ => (rfl : (rowOf 0xF4).mode = .zpx)
theorem nopAbs0C (w : Addr) : Statement (.nopAbs0C w) := fun _ => (rfl : (rowOf 0x0C).mode = .abs)
theorem nopAbsx1C (w : Addr) : Statement (.nopAbsx1C w) := fun _ => (rfl : (rowOf 0x1C).mode = .absx)
theorem nopAbsx3C (w : Addr) : Statement (.nopAbsx3C w) := fun _ => (rfl : (rowOf 0x3C).mode = .absx)
theorem nopAbsx5C (w : Addr) : Statement (.nopAbsx5C w) := fun _ => (rfl : (rowOf 0x5C).mode = .absx)
theorem nopAbsx7C (w : Addr) : Statement (.nopAbsx7C w) := fun _ => (rfl : (rowOf 0x7C).mode = .absx)
theorem nopAbsxDC (w : Addr) : Statement (.nopAbsxDC w) := fun _ => (rfl : (rowOf 0xDC).mode = .absx)
theorem nopAbsxFC (w : Addr) : Statement (.nopAbsxFC w) := fun _ => (rfl : (rowOf 0xFC).mode = .absx)
theorem ill (op : Byte) : Statement (.ill op) := fun h => by
  have := List.all_eq_true.mp illegal_rows op (List.contains_iff_mem.mp h)
  exact eq_of_beq this

end Sys2Proof.Laws.RowMode
end

