-- ==== Sys2Proof/Laws/Reset.lean ====
section
/-!
SUPPORT. `State.reset` is what power-on with the blank cartridge and `reset()` leave (10_state.md R48, R482), and its
memories are in canonical form; so are those of every cartridge an image gives (R485, R486).
-/

namespace Sys2Proof.Machine

/-- The launch state of `State.reset`: every byte and every register zero (log 1, log 9). -/
def Launch.zero : Launch :=
  { a := 0, x := 0, y := 0, sp := 0, p := 0, pc := 0, ram := [], vram := [], palette := [], oam := [] }

theorem reset_eq_resetCpu_powerOn : State.reset = resetCpu (powerOn Params.default Cartridge.blank Launch.zero) := by
  decide

theorem reset_memories_wf :
    State.reset.ram.wf 2048 ∧ State.reset.ppu.vram.wf 2048 ∧ State.reset.ppu.palette.wf 32 ∧
      State.reset.ppu.oam.wf 256 ∧ State.reset.cart.prg.wf 32768 ∧ State.reset.cart.chr.wf chrBytes := by
  decide

/-- The vector reads of `reset()` are reads of `PRG`: it never ends in a fatal condition (R483). -/
theorem resetAccess_ok (s : State) : ∃ t, resetAccess s = .ok () t := by
  unfold resetAccess
  rw [memRead2_of_prg (by decide) (by decide)]
  exact ⟨_, rfl⟩

/-- A cartridge read from an image is in canonical form, in the size its header declares. -/
theorem parseInes_wf {image : List Byte} {cart : Cartridge} (h : parseInes image = .ok cart) :
    cart.prg.wf cart.prgSize.bytes ∧ cart.chr.wf chrBytes := by
  unfold parseInes at h
  repeat (split at h; · cases h)
  cases h
  constructor <;> exact Memory.wf_ofBytes _ _ (by simp only [imageSlice, List.length_take]; omega)

end Sys2Proof.Machine
end

