-- ==== Sys2Proof/Laws/Stable.lean ====
section
/-!
SUPPORT. The one induction over what a step does. A property of states that every update an access makes keeps
(`AccessStable`) is kept by every access; one that every update of a step keeps (`Stable`) is kept by every instruction and
every step. An invariant is then proved by filling the fields.
-/

namespace Sys2Proof.Machine

/-- The property is kept by every update an access to the bus can make. -/
structure AccessStable (I : State → Prop) : Prop where
  ram : ∀ {s} i b, i < 2048 → I s → I (s.setRam (s.ram.write i b))
  statusRead : ∀ {s}, I s → I (s.setPpu (statusReadEffect s.ppu))
  dataRead : ∀ {s b u}, dataRead s.cart s.ppu = .ok (b, u) → I s → I (s.setPpu u)
  control : ∀ {s} b, I s → I (s.setPpu (controlWrite b s.ppu))
  mask : ∀ {s} b, I s → I (s.setPpu (maskWrite b s.ppu))
  oamAddr : ∀ {s} b, I s → I (s.setPpu (oamAddrWrite b s.ppu))
  oamData : ∀ {s} b, I s → I (s.setPpu (oamDataWrite b s.ppu))
  scroll : ∀ {s} b, I s → I (s.setPpu (scrollWrite b s.ppu))
  address : ∀ {s} b, I s → I (s.setPpu (addressWrite b s.ppu))
  dataWrite : ∀ {s b u}, dataWrite s.cart b s.ppu = .ok u → I s → I (s.setPpu u)
  joyRead : ∀ {s}, I s → I (s.setJoy (joypadReadEffect s.joy))
  joyWrite : ∀ {s} b, I s → I (s.setJoy (joypadWrite b s.joy))

/-- The property is kept by every update a step is made of. -/
structure Stable (I : State → Prop) : Prop extends AccessStable I where
  regs : ∀ {s} a x y sp pc run e, I s →
    I { s with a := a, x := x, y := y, sp := sp, pc := pc, run := run, frameReady := e }
  flag : ∀ {s} f b, f ≠ .b1 → f ≠ .b2 → I s → I (s.setFlag f b)
  restored : ∀ {s} b, I s → I (s.setP (restoredP b))
  request : ∀ {s}, I s → I (s.setPpu { s.ppu with pendingNmi := false })
  tick : ∀ {s} n, I s → I (tick n s)

/-- Both ends of an access keep the property. -/
def Access.keeps {α : Type} (I : State → Prop) (r : Access α) : Prop :=
  match r with
  | .ok _ t => I t
  | .fatal _ t => I t

theorem Access.keeps_andThen {α β : Type} {I : State → Prop} {r : Access α} {f : α → State → Access β}
    (h : r.keeps I) (hf : ∀ v s, I s → (f v s).keeps I) : (r.andThen f).keeps I := by
  cases r with
  | ok v s => exact hf v s h
  | fatal k s => exact h

/-- The next state, where there is one, has the property. -/
def outcomeKeeps (I : State → Prop) : Host.Outcome State Fault Refusal → Prop
  | .next t => I t
  | .fault _ => True
  | .refused _ => True

namespace AccessStable

variable {I : State → Prop} (hI : AccessStable I)

include hI

theorem memRead (a : Addr) {s : State} (h : I s) : (memRead a s).keeps I := by
  cases hr : Machine.memRead a s with
  | ok b t =>
    obtain rfl | rfl | ⟨u, hu, rfl⟩ | rfl := memRead_ok hr
    · exact h
    · exact hI.statusRead h
    · exact hI.dataRead hu h
    · exact hI.joyRead h
  | fatal k t => rw [memRead_fatal hr]; exact h

theorem memRead_ok {a : Addr} {s t : State} {b : Byte} (h : I s) (hr : Machine.memRead a s = .ok b t) : I t := by
  have := hI.memRead a h
  rw [hr] at this
  exact this

theorem memWrite (a : Addr) (b : Byte) {s : State} (h : I s) : (memWrite a b s).keeps I := by
  cases hr : Machine.memWrite a b s with
  | ok n t =>
    obtain ⟨_, h1⟩ | ⟨_, _, h1⟩ := memWrite_ok hr
    · obtain rfl | rfl | rfl | rfl | rfl | rfl | rfl | rfl | ⟨u, hu, rfl⟩ | rfl := h1
      · exact h
      · exact hI.ram _ b (Nat.mod_lt _ (by decide)) h
      · exact hI.control b h
      · exact hI.mask b h
      · exact hI.oamAddr b h
      · exact hI.oamData b h
      · exact hI.scroll b h
      · exact hI.address b h
      · exact hI.dataWrite hu h
      · exact hI.joyWrite b h
    · exact dmaFrom_ok (fun hs hr => hI.memRead_ok hs hr) (fun b hs => hI.oamData b hs) h h1
  | fatal k t =>
    obtain rfl | ⟨_, h1⟩ := memWrite_fatal hr
    · exact h
    · exact dmaFrom_fatal (fun hs hr => hI.memRead_ok hs hr) (fun b hs => hI.oamData b hs) h h1

theorem memRead2 (a : Addr) {s : State} (h : I s) : (memRead2 a s).keeps I :=
  Access.keeps_andThen (hI.memRead _ h) fun _ _ h => Access.keeps_andThen (hI.memRead _ h) fun _ _ h => h

theorem effAddr (m : MemMode) {s : State} (h : I s) : (effAddr m s).keeps I := by
  have hp : ∀ (lo hi : Addr) {s : State}, I s → (readPointer lo hi s).keeps I := fun lo hi s h =>
    Access.keeps_andThen (hI.memRead lo h) fun _ _ h => Access.keeps_andThen (hI.memRead hi h) fun _ _ h => h
  cases m with
  | zp | zpx | zpy | abs | absx | absy => exact h
  | indx | indy | ind => exact Access.keeps_andThen (hp _ _ h) fun _ _ h => h

theorem readOperand (o : Operand) {s : State} (h : I s) : (readOperand o s).keeps I := by
  cases o with
  | imm => exact h
  | mem m =>
    exact Access.keeps_andThen (hI.effAddr m h) fun _ _ h => Access.keeps_andThen (hI.memRead _ h) fun _ _ h => h

end AccessStable

namespace Stable

variable {I : State → Prop} (hI : Stable I)

include hI

theorem setA {s : State} (v : Byte) (h : I s) : I (s.setA v) := hI.regs v s.x s.y s.sp s.pc s.run s.frameReady h
theorem setX {s : State} (v : Byte) (h : I s) : I (s.setX v) := hI.regs s.a v s.y s.sp s.pc s.run s.frameReady h
theorem setY {s : State} (v : Byte) (h : I s) : I (s.setY v) := hI.regs s.a s.x v s.sp s.pc s.run s.frameReady h
theorem setSp {s : State} (v : Byte) (h : I s) : I (s.setSp v) := hI.regs s.a s.x s.y v s.pc s.run s.frameReady h
theorem setPc {s : State} (w : Addr) (h : I s) : I (s.setPc w) := hI.regs s.a s.x s.y s.sp w s.run s.frameReady h
theorem setRun {s : State} (r : Run) (h : I s) : I (s.setRun r) := hI.regs s.a s.x s.y s.sp s.pc r s.frameReady h
theorem setFrameReady {s : State} (e : Bool) (h : I s) : I (s.setFrameReady e) :=
  hI.regs s.a s.x s.y s.sp s.pc s.run e h

theorem setZN {s : State} (v : Byte) (h : I s) : I (s.setZN v) :=
  hI.flag .n _ (by decide) (by decide) (hI.flag .z (v == 0) (by decide) (by decide) h)

theorem push (b : Byte) {s : State} (h : I s) : (push b s).keeps I :=
  Access.keeps_andThen (hI.memWrite _ b h) fun _ _ h => hI.setSp _ h

theorem pop {s : State} (h : I s) : (pop s).keeps I := hI.memRead _ (hI.setSp _ h)

theorem push16 (w : Addr) {s : State} (h : I s) : (push16 w s).keeps I :=
  Access.keeps_andThen (hI.push _ h) fun _ _ h => hI.push _ h

theorem pop16 {s : State} (h : I s) : (pop16 s).keeps I :=
  Access.keeps_andThen (hI.pop h) fun _ _ h => Access.keeps_andThen (hI.pop h) fun _ _ h => h

theorem finish (op : Byte) {r : Access Nat} (h : r.keeps I) : outcomeKeeps I (finish op r) := by
  cases r with
  | ok n s => exact hI.tick _ h
  | fatal k s => exact hI.setRun _ h

theorem addWithCarry (m : Byte) {s : State} (h : I s) : I (addWithCarry m s) :=
  hI.setZN _ (hI.setA _ (hI.flag _ _ (by decide) (by decide) (hI.flag _ _ (by decide) (by decide) h)))

theorem compareWith (r m : Byte) {s : State} (h : I s) : I (compareWith r m s) :=
  hI.setZN _ (hI.flag _ _ (by decide) (by decide) h)

theorem reads {m : Mnemonic} {f : Byte → State → State} (hm : workOf m = .reads f) (b : Byte) {s : State} (h : I s) :
    I (f b s) := by
  cases m <;> cases hm
  case lda | and | ora | eor => exact hI.setZN _ (hI.setA _ h)
  case ldx => exact hI.setZN _ (hI.setX _ h)
  case ldy => exact hI.setZN _ (hI.setY _ h)
  case lax => exact hI.setZN _ (hI.setX _ (hI.setA _ h))
  case adc | sbc | sbcU => exact hI.addWithCarry _ h
  case cmp | cpx | cpy => exact hI.compareWith _ _ h
  case bit => exact hI.flag .v _ (by decide) (by decide) (hI.flag .n _ (by decide) (by decide) (hI.flag .z _ (by decide) (by decide) h))
  case anc => exact hI.flag .c _ (by decide) (by decide) (hI.setZN _ (hI.setA _ h))
  case alr => exact hI.setZN _ (hI.setA _ (hI.flag .c _ (by decide) (by decide) h))
  case arr => exact hI.flag .v _ (by decide) (by decide) (hI.flag .c _ (by decide) (by decide) (hI.setZN _ (hI.setA _ h)))
  case axs => exact hI.setZN _ (hI.setX _ (hI.flag .c _ (by decide) (by decide) h))
  case las => exact hI.setZN _ (hI.setSp _ (hI.setX _ (hI.setA _ h)))
  case nopU => exact h

theorem registers {m : Mnemonic} {f : State → State} (hm : workOf m = .registers f) {s : State} (h : I s) : I (f s) := by
  cases m <;> cases hm <;>
    first
    | exact h
    | exact hI.setSp _ h
    | exact hI.setZN _ (hI.setA _ h)
    | exact hI.setZN _ (hI.setX _ h)
    | exact hI.setZN _ (hI.setY _ h)
    | exact hI.flag _ _ (by decide) (by decide) h

theorem modifies {m : Mnemonic} {f : Byte → State → Byte × State} {g : Byte → State → State}
    (hm : workOf m = .modifies f g) :
    (∀ b {s}, I s → I (f b s).2) ∧ ∀ b {s}, I s → I (g b s) := by
  cases m <;> cases hm
  case inc | dec => exact ⟨fun _ _ h => h, fun _ _ h => hI.setZN _ h⟩
  case asl | lsr | rol | ror => exact ⟨fun _ _ h => hI.flag .c _ (by decide) (by decide) h, fun _ _ h => hI.setZN _ h⟩
  case dcp => exact ⟨fun _ _ h => h, fun _ _ h => hI.compareWith _ _ h⟩
  case isb => exact ⟨fun _ _ h => h, fun _ _ h => hI.addWithCarry _ h⟩
  case slo | rla | sre => exact ⟨fun _ _ h => hI.flag .c _ (by decide) (by decide) h, fun _ _ h => hI.setZN _ (hI.setA _ h)⟩
  case rra => exact ⟨fun _ _ h => hI.flag .c _ (by decide) (by decide) h, fun _ _ h => hI.addWithCarry _ h⟩

theorem stack {m : Mnemonic} {f : State → Access Unit} (hm : workOf m = .stack f) {s : State} (h : I s) :
    (f s).keeps I := by
  cases m <;> cases hm
  · exact hI.push _ h
  · exact hI.push _ h
  · exact Access.keeps_andThen (hI.pop h) fun _ _ h => hI.setZN _ (hI.setA _ h)
  · exact Access.keeps_andThen (hI.pop h) fun _ _ h => hI.restored _ h

theorem transfers {m : Mnemonic} {f : Addr → State → Access Nat} (hm : workOf m = .transfers f) (w : Addr) {s : State}
    (h : I s) : (f w s).keeps I := by
  cases m <;> cases hm
  · exact Access.keeps_andThen (hI.push16 _ h) fun _ _ h => hI.setPc _ h
  · exact Access.keeps_andThen (hI.pop16 h) fun _ _ h => hI.setPc _ h
  · exact Access.keeps_andThen (hI.pop h) fun _ _ h =>
      Access.keeps_andThen (hI.pop16 (hI.restored _ h)) fun _ _ h => hI.setPc _ h

/-- Every instruction keeps a stable property. -/
theorem exec (i : Instr) {s : State} (h : I s) : outcomeKeeps I (exec i s) := by
  rw [exec_eq]
  cases hw : workOf i.mnemonic with
  | reads f =>
    exact hI.finish _ (Access.keeps_andThen (hI.readOperand _ h) fun _ _ h => hI.setPc _ (hI.reads hw _ h))
  | stores v =>
    exact hI.finish _ (Access.keeps_andThen (hI.effAddr _ h) fun _ _ h =>
      Access.keeps_andThen (hI.memWrite _ _ h) fun _ _ h => hI.setPc _ h)
  | modifies f g =>
    have hm := hI.modifies hw
    unfold runWork
    dsimp only
    split
    · exact hI.tick _ (hI.setPc _ (hI.setZN _ (hI.setA _ (hm.1 _ h))))
    · exact hI.finish _ (Access.keeps_andThen (hI.effAddr _ h) fun _ _ h =>
        Access.keeps_andThen (hI.memRead _ h) fun _ _ h =>
        Access.keeps_andThen (hI.memWrite _ _ (hm.1 _ h)) fun _ _ h => hI.setPc _ (hm.2 _ h))
  | registers f => exact hI.tick _ (hI.setPc _ (hI.registers hw h))
  | stack f => exact hI.finish _ (Access.keeps_andThen (hI.stack hw h) fun _ _ h => hI.setPc _ h)
  | branches cond =>
    refine hI.finish _ ?_
    unfold branchIf
    dsimp only
    split
    · exact hI.setPc _ h
    · exact hI.setPc _ h
  | jumps => exact hI.finish _ (Access.keeps_andThen (hI.effAddr _ h) fun _ _ h => hI.setPc _ h)
  | transfers f => exact hI.finish _ (hI.transfers hw _ h)
  | halts => exact hI.setRun _ (hI.setPc _ h)
  | faults => exact hI.setRun _ h

theorem fetch {s : State} (h : I s) : (fetch s).keeps I := by
  refine Access.keeps_andThen (hI.memRead _ h) fun op s h => Access.keeps_andThen ?_ fun _ _ h => h
  unfold fetchOperands
  split
  · exact Access.keeps_andThen (hI.memRead _ h) fun _ _ h => h
  · exact Access.keeps_andThen (hI.memRead _ h) fun _ _ h => Access.keeps_andThen (hI.memRead _ h) fun _ _ h => h
  · exact h

theorem pollNmi {s : State} (h : I s) : (pollNmi s).keeps I := by
  unfold Machine.pollNmi
  split
  · exact Access.keeps_andThen (hI.push16 _ (hI.request h)) fun _ _ h =>
      Access.keeps_andThen (hI.push _ h) fun _ _ h =>
      Access.keeps_andThen (hI.memRead2 _ (hI.tick _ (hI.flag .i true (by decide) (by decide) h))) fun _ _ h =>
        hI.setPc _ h
  · exact h

/-- Every step keeps a stable property. -/
theorem step {s t : State} (h : I s) (ht : step s = .next t) : I t := by
  unfold Machine.step at ht
  have hp := Access.keeps_andThen (hI.pollNmi (hI.setFrameReady false h)) fun _ _ h => hI.fetch h
  split at ht
  · cases ht
  · cases ht
  · split at ht
    · rename_i i u hu
      rw [hu] at hp
      have := hI.exec i hp
      rw [ht] at this
      exact this
    · rename_i k u hu
      rw [hu] at hp
      cases ht
      exact hI.setRun _ hp

end Stable

end Sys2Proof.Machine
end

