-- ==== Sys2Proof/Laws/Timing.lean ====
section
/-!
SUPPORT. PPU time: what one dot and any number of dots can change, and where the counters stand after them.
-/

namespace Sys2Proof.Machine

/-! ### One dot -/

/-- Everything `countDot` can do: wrap the frame, wrap the line, or move along the line. -/
theorem countDot_cases (u : Ppu) :
    (u.dot + 1 = 341 ∧ u.scanline + 1 = 262 ∧
      countDot u = { u with scanline := 0, dot := 0, status := u.status &&& 0x3F, pendingNmi := false }) ∨
    (u.dot + 1 = 341 ∧ u.scanline + 1 ≠ 262 ∧ countDot u = { u with scanline := u.scanline + 1, dot := 0 }) ∨
    (u.dot + 1 ≠ 341 ∧ countDot u = { u with dot := u.dot + 1 }) := by
  unfold countDot
  by_cases h1 : u.dot + 1 = dotsPerLine
  · by_cases h2 : u.scanline + 1 = linesPerFrame
    · exact .inl ⟨h1, h2, by rw [if_pos h1, if_pos h2]; rfl⟩
    · exact .inr (.inl ⟨h1, h2, by rw [if_pos h1, if_neg h2]⟩)
  · exact .inr (.inr ⟨h1, by rw [if_neg h1]⟩)

/-- The counters are in their ranges (R38). -/
def Ppu.inRange (u : Ppu) : Prop := u.scanline ≤ 261 ∧ u.dot ≤ 340

/-- Everything a dot can do, by the position it leaves: vblank onset, the frame wrap, a new line, or the next dot. -/
theorem dotAdvance_cases (u : Ppu) (h : u.inRange) :
    (framePosition u = 82181 ∧ dotAdvance u =
      { u with dot := 1, status := (u.status ||| 0x80) &&& 0xBF, pendingNmi := u.pendingNmi || u.ctrl.getLsbD 7 }) ∨
    (framePosition u = 89341 ∧ dotAdvance u =
      { u with scanline := 0, dot := 0, status := u.status &&& 0x3F, pendingNmi := false }) ∨
    (framePosition u ≠ 82181 ∧ framePosition u ≠ 89341 ∧ u.dot = 340 ∧
      dotAdvance u = { u with scanline := u.scanline + 1, dot := 0 }) ∨
    (framePosition u ≠ 82181 ∧ framePosition u ≠ 89341 ∧ u.dot ≠ 340 ∧ dotAdvance u = { u with dot := u.dot + 1 }) := by
  unfold Ppu.inRange at h
  simp only [framePosition, dotsPerLine, dotAdvance]
  obtain ⟨h1, h2, e⟩ | ⟨h1, h2, e⟩ | ⟨h1, e⟩ := countDot_cases u
  · refine .inr (.inl ⟨by omega, ?_⟩)
    rw [e]
    rfl
  · refine .inr (.inr (.inl ⟨by omega, by omega, by omega, ?_⟩))
    rw [e, if_neg (by simp)]
  · rw [e]
    by_cases h3 : u.scanline = 241 ∧ u.dot = 0
    · refine .inl ⟨by omega, ?_⟩
      rw [if_pos ⟨h3.1, by show u.dot + 1 = 1; omega⟩, h3.2]
      rfl
    · refine .inr (.inr (.inr ⟨by omega, by omega, by omega, ?_⟩))
      rw [if_neg (fun hh => h3 ⟨hh.1, Nat.succ.inj hh.2⟩)]

theorem dotAdvance_inRange {u : Ppu} (h : u.inRange) : (dotAdvance u).inRange := by
  have hh := h
  unfold Ppu.inRange at *
  obtain ⟨hp, e⟩ | ⟨hp, e⟩ | ⟨_, hp, _, e⟩ | ⟨_, hp, _, e⟩ := dotAdvance_cases u h <;> rw [e] <;>
    unfold framePosition dotsPerLine at hp <;> dsimp only <;> omega

theorem dotAdvance_position {u : Ppu} (h : u.inRange) :
    framePosition (dotAdvance u) = (framePosition u + 1) % dotsPerFrame := by
  have key : ∀ a b c d : Nat, a ≤ 261 → b ≤ 340 →
      (a * 341 + b = 82181 ∧ c = a ∧ d = 1) ∨ (a * 341 + b = 89341 ∧ c = 0 ∧ d = 0) ∨
        (a * 341 + b ≠ 89341 ∧ b = 340 ∧ c = a + 1 ∧ d = 0) ∨ (b ≠ 340 ∧ c = a ∧ d = b + 1) →
      c * 341 + d = (a * 341 + b + 1) % 89342 := by omega
  refine key u.scanline u.dot _ _ h.1 h.2 ?_
  obtain ⟨hp, e⟩ | ⟨hp, e⟩ | ⟨_, hp, hd, e⟩ | ⟨_, hp, hd, e⟩ := dotAdvance_cases u h
  · exact .inl ⟨hp, by rw [e], by rw [e]⟩
  · exact .inr (.inl ⟨hp, by rw [e], by rw [e]⟩)
  · exact .inr (.inr (.inl ⟨hp, hd, by rw [e], by rw [e]⟩))
  · exact .inr (.inr (.inr ⟨hd, by rw [e], by rw [e]⟩))

/-- A dot changes the two counters, the status and the request, and nothing else, wherever the counters stand. -/
theorem dotAdvance_frame (u : Ppu) : ∃ a b c d,
    dotAdvance u = { u with scanline := a, dot := b, status := c, pendingNmi := d } := by
  have key : ∀ v : Ppu, (∃ a b c d, v = { u with scanline := a, dot := b, status := c, pendingNmi := d }) →
      ∃ a b c d, (if v.scanline = 241 ∧ v.dot = 1 then vblankOnset v else v) =
        { u with scanline := a, dot := b, status := c, pendingNmi := d } := by
    rintro _ ⟨a, b, c, d, rfl⟩
    split
    · exact ⟨_, _, _, _, rfl⟩
    · exact ⟨_, _, _, _, rfl⟩
  refine key _ ?_
  obtain ⟨_, _, e⟩ | ⟨_, _, e⟩ | ⟨_, e⟩ := countDot_cases u <;> rw [e]
  · exact ⟨_, _, _, _, rfl⟩
  · exact ⟨_, _, u.status, u.pendingNmi, rfl⟩
  · exact ⟨u.scanline, _, u.status, u.pendingNmi, rfl⟩

/-! ### Any number of dots -/

theorem advanceDots_add (m n : Nat) (u : Ppu) : advanceDots (m + n) u = advanceDots n (advanceDots m u) := by
  induction m generalizing u with
  | zero => simp [advanceDots]
  | succ m ih => rw [Nat.succ_add]; exact ih _

/-- A property that every dot keeps is kept by any number of dots. -/
theorem advanceDots_keeps {I : Ppu → Prop} (h : ∀ u, I u → I (dotAdvance u)) (n : Nat) {u : Ppu} (hu : I u) :
    I (advanceDots n u) := by
  induction n generalizing u with
  | zero => exact hu
  | succ n ih => exact ih (h u hu)

/-- Dots change the two counters, the status and the request, and nothing else. -/
theorem advanceDots_frame (n : Nat) (u : Ppu) : ∃ a b c d,
    advanceDots n u = { u with scanline := a, dot := b, status := c, pendingNmi := d } :=
  advanceDots_keeps (I := fun w => ∃ a b c d, w = { u with scanline := a, dot := b, status := c, pendingNmi := d })
    (fun w ⟨a, b, c, d, e⟩ => by
      obtain ⟨a', b', c', d', e'⟩ := dotAdvance_frame w
      exact ⟨a', b', c', d', by rw [e', e]⟩)
    n ⟨u.scanline, u.dot, u.status, u.pendingNmi, rfl⟩

theorem advanceDots_inRange (n : Nat) {u : Ppu} (h : u.inRange) : (advanceDots n u).inRange :=
  advanceDots_keeps (I := Ppu.inRange) (fun _ => dotAdvance_inRange) n h

theorem advanceDots_position (n : Nat) {u : Ppu} (h : u.inRange) :
    framePosition (advanceDots n u) = (framePosition u + n) % dotsPerFrame := by
  induction n generalizing u with
  | zero =>
    unfold Ppu.inRange at h
    simp only [advanceDots, framePosition, dotsPerFrame, dotsPerLine, linesPerFrame]
    omega
  | succ n ih =>
    show framePosition (advanceDots n (dotAdvance u)) = _
    rw [ih (dotAdvance_inRange h), dotAdvance_position h, Nat.mod_add_mod, Nat.add_assoc, Nat.add_comm 1 n]

/-! ### Fields that dots leave alone -/

theorem advanceDots_field {α : Type} (n : Nat) (u : Ppu) (f : Ppu → α)
    (h : ∀ (u : Ppu) a b c d, f { u with scanline := a, dot := b, status := c, pendingNmi := d } = f u) :
    f (advanceDots n u) = f u := by
  obtain ⟨a, b, c, d, e⟩ := advanceDots_frame n u
  rw [e]
  exact h _ _ _ _ _

@[simp] theorem advanceDots_ctrl (n : Nat) (u : Ppu) : (advanceDots n u).ctrl = u.ctrl :=
  advanceDots_field n u Ppu.ctrl fun _ _ _ _ _ => rfl
@[simp] theorem advanceDots_mask (n : Nat) (u : Ppu) : (advanceDots n u).mask = u.mask :=
  advanceDots_field n u Ppu.mask fun _ _ _ _ _ => rfl
@[simp] theorem advanceDots_oamAddr (n : Nat) (u : Ppu) : (advanceDots n u).oamAddr = u.oamAddr :=
  advanceDots_field n u Ppu.oamAddr fun _ _ _ _ _ => rfl
@[simp] theorem advanceDots_v (n : Nat) (u : Ppu) : (advanceDots n u).v = u.v :=
  advanceDots_field n u Ppu.v fun _ _ _ _ _ => rfl
@[simp] theorem advanceDots_readBuffer (n : Nat) (u : Ppu) : (advanceDots n u).readBuffer = u.readBuffer :=
  advanceDots_field n u Ppu.readBuffer fun _ _ _ _ _ => rfl
@[simp] theorem advanceDots_vram (n : Nat) (u : Ppu) : (advanceDots n u).vram = u.vram :=
  advanceDots_field n u Ppu.vram fun _ _ _ _ _ => rfl
@[simp] theorem advanceDots_palette (n : Nat) (u : Ppu) : (advanceDots n u).palette = u.palette :=
  advanceDots_field n u Ppu.palette fun _ _ _ _ _ => rfl
@[simp] theorem advanceDots_oam (n : Nat) (u : Ppu) : (advanceDots n u).oam = u.oam :=
  advanceDots_field n u Ppu.oam fun _ _ _ _ _ => rfl

end Sys2Proof.Machine
end

