-- ==== Sys2Proof/Tests/Slice0.lean ====
section
/-!
SUPPORT. Tests of one step on small states, their expected results taken from spec/95_test_vectors.md (a test's name gives the
vector), the WellFormed smoke test, decodings of words written out from 30_encoding.md, and a witness for every statement of
Certificates/Slice0/Obligations.lean that has hypotheses.
-/

namespace Sys2Proof.Tests

open Sys2Proof Sys2Proof.Machine Sys2Proof.Claims

/-! ### Helpers -/

/-- A byte array with these bytes, the rest zero. -/
def bytes (cells : List (Nat × Byte)) : Memory := cells.foldl (fun m c => m.write c.1 c.2) []

/-- A machine after power-on and `reset()` with a 32 KiB cartridge that holds code from `pc` on. -/
def bootAt (pc : Addr) (code : List Byte) : State :=
  { State.reset with
    pc := pc
    cart := { Cartridge.blank with prg := (Memory.ofBytesFrom (pc.toNat - 0x8000) code).write 0x7FFD 0x80 } }

/-- The default start state of spec/95_test_vectors.md with code at 0x8000. -/
def boot (code : List Byte) : State := bootAt 0x8000 code

/-- `A X Y S P PC` and the cycle count. -/
def cpu (t : State) : List Nat :=
  [t.a.toNat, t.x.toNat, t.y.toNat, t.sp.toNat, t.p.toNat, t.pc.toNat, t.cycles]

/-- The outcome is a next state with the property. -/
def ends (o : Host.Outcome State Fault Refusal) (good : State → Bool) : Bool :=
  match o with
  | .next t => good t
  | _ => false

/-- One step from `s` leaves the machine running with these registers and these bytes of `RAM`. -/
abbrev runs (s : State) (regs : List Nat) (ram : List (Nat × Byte)) : Prop :=
  ends (step s) (fun t => t.run == .running && cpu t == regs && ram.all fun c => t.ram.read c.1 == c.2) = true

theorem next_of_ends {o : Host.Outcome State Fault Refusal} {good : State → Bool} (h : ends o good = true) :
    ∃ t, o = .next t ∧ good t = true := by
  cases o with
  | next t => exact ⟨t, rfl, h⟩
  | fault r => cases h
  | refused r => cases h

/-! ### WellFormed: `ill` with a byte that has a table entry is refused -/

theorem test_wellFormed_ill_refused : (Instr.ill 0xA9).wf = false := by decide
theorem test_wellFormed_ill_accepted : (Instr.ill 0x02).wf = true := by decide

/-! ### Decoding: words written out from 30_encoding.md R121, R132, R133, R135 -/

/-- LDA #$C0 is A9 C0. -/
theorem test_decode_load : decode [0xA9, 0xC0] = .ok (.ldaImm 0xC0, []) := rfl
/-- STA $0200,Y is 99 00 02, low byte first. -/
theorem test_decode_store : decode [0x99, 0x00, 0x02, 0xEA] = .ok (.staAbsy 0x0200, [0xEA]) := rfl
/-- TSX is BA. -/
theorem test_decode_transfer : decode [0xBA] = .ok (.tsx, []) := rfl
/-- ADC ($20),Y is 71 20. -/
theorem test_decode_arithmetic : decode [0x71, 0x20] = .ok (.adcIndy 0x20, []) := rfl
/-- CPX $1234 is EC 34 12. -/
theorem test_decode_compare : decode [0xEC, 0x34, 0x12] = .ok (.cpxAbs 0x1234, []) := rfl
/-- ROR $10,X is 76 10. -/
theorem test_decode_shift : decode [0x76, 0x10] = .ok (.rorZpx 0x10, []) := rfl
/-- BVS +5 is 70 05. -/
theorem test_decode_branch : decode [0x70, 0x05] = .ok (.bvs 0x05, []) := rfl
/-- JMP ($02FF) is 6C FF 02. -/
theorem test_decode_jump : decode [0x6C, 0xFF, 0x02] = .ok (.jmpInd 0x02FF, []) := rfl
/-- PLP is 28. -/
theorem test_decode_stack : decode [0x28] = .ok (.plp, []) := rfl
/-- SLO ($10,X) is 03 10, and the second SBC byte is EB. -/
theorem test_decode_undocumented :
    decode [0x03, 0x10] = .ok (.sloIndx 0x10, []) ∧ decode [0xEB, 0x01] = .ok (.sbcImmEB 0x01, []) := ⟨rfl, rfl⟩
/-- 8B has no table entry; it decodes by name, alone. -/
theorem test_decode_illegal : decode [0x8B, 0x00] = .ok (.ill 0x8B, [0x00]) := rfl
/-- A list that ends inside an instruction is refused by name. -/
theorem test_decode_truncated :
    decode [0x4C, 0x00] = .error (.truncated 0x4C) ∧ decode [] = .error .empty := ⟨rfl, rfl⟩
/-- The table numbers the operand's low byte 15..8 and its high byte 23..16. -/
theorem test_decodeTableWord : decodeTableWord 24 0x9234_4C = some (.jmpAbs 0x9234) := by decide
/-- The step after reset runs exactly the word placed for it. -/
theorem test_withFetchWord :
    ends (step (State.reset.withFetchWord 16 0xC0A9)) (fun t => cpu t == [0xC0, 0, 0, 0xFD, 0xA4, 2, 2]) = true := by
  decide

/-! ### One step (spec/95_test_vectors.md, part 2) -/

theorem test_LS1 : runs (boot [0xA9, 0x00]) [0x00, 0x00, 0x00, 0xFD, 0x26, 0x8002, 2] [] := by decide

theorem test_LS3 : runs { boot [0xA9, 0x7F] with p := 0xA6 } [0x7F, 0x00, 0x00, 0xFD, 0x24, 0x8002, 2] [] := by decide

theorem test_LS4 :
    runs { boot [0xBD, 0xFF, 0x10] with x := 0x01, ram := bytes [(0x100, 0x5A)] }
      [0x5A, 0x01, 0x00, 0xFD, 0x24, 0x8003, 5] [(0x100, 0x5A)] := by decide

theorem test_LS5 :
    runs { boot [0xBD, 0x00, 0x10] with x := 0x01, ram := bytes [(0x001, 0x5B)] }
      [0x5B, 0x01, 0x00, 0xFD, 0x24, 0x8003, 4] [(0x001, 0x5B)] := by decide

theorem test_LS6 :
    runs { boot [0xB1, 0x20] with y := 0x01, ram := bytes [(0x020, 0xFF), (0x021, 0x02), (0x300, 0x77)] }
      [0x77, 0x00, 0x01, 0xFD, 0x24, 0x8002, 6] [(0x020, 0xFF), (0x021, 0x02), (0x300, 0x77)] := by decide

theorem test_LS7 :
    runs { boot [0xB1, 0x20] with y := 0x01, ram := bytes [(0x020, 0x00), (0x021, 0x03), (0x301, 0x78)] }
      [0x78, 0x00, 0x01, 0xFD, 0x24, 0x8002, 5] [(0x020, 0x00), (0x021, 0x03), (0x301, 0x78)] := by decide

theorem test_LS8 :
    runs { boot [0xA1, 0xFF] with x := 0x00, ram := bytes [(0x000, 0x02), (0x0FF, 0x34), (0x234, 0x99)] }
      [0x99, 0x00, 0x00, 0xFD, 0xA4, 0x8002, 6] [(0x000, 0x02), (0x0FF, 0x34), (0x234, 0x99)] := by decide

theorem test_LS9 :
    runs { boot [0xA1, 0x80] with x := 0x90, ram := bytes [(0x010, 0x00), (0x011, 0x03), (0x300, 0x11)] }
      [0x11, 0x90, 0x00, 0xFD, 0x24, 0x8002, 6] [(0x010, 0x00), (0x011, 0x03), (0x300, 0x11)] := by decide

theorem test_LS10 :
    runs { boot [0xB6, 0xF0] with y := 0x20, ram := bytes [(0x010, 0x42)] }
      [0x00, 0x42, 0x20, 0xFD, 0x24, 0x8002, 4] [(0x010, 0x42)] := by decide

theorem test_LS11 :
    runs { boot [0xB5, 0xFF] with x := 0x01, ram := bytes [(0x000, 0x66)] }
      [0x66, 0x01, 0x00, 0xFD, 0x24, 0x8002, 4] [(0x000, 0x66)] := by decide

theorem test_LS12 :
    runs { boot [0x8D, 0x00, 0x08] with a := 0x3C }
      [0x3C, 0x00, 0x00, 0xFD, 0x24, 0x8003, 4] [(0x000, 0x3C)] := by decide

theorem test_LS13 :
    runs { boot [0x9D, 0xFF, 0x10] with a := 0x3C, x := 0x01 }
      [0x3C, 0x01, 0x00, 0xFD, 0x24, 0x8003, 5] [(0x100, 0x3C)] := by decide

theorem test_LS14 :
    runs { boot [0x91, 0x20] with a := 0x3C, y := 0x01, ram := bytes [(0x020, 0xFF), (0x021, 0x02)] }
      [0x3C, 0x00, 0x01, 0xFD, 0x24, 0x8002, 6] [(0x020, 0xFF), (0x021, 0x02), (0x300, 0x3C)] := by decide

theorem test_LS15 :
    runs { boot [0x86, 0x10] with x := 0x00, p := 0xA4, ram := bytes [(0x010, 0x55)] }
      [0x00, 0x00, 0x00, 0xFD, 0xA4, 0x8002, 3] [(0x010, 0x00)] := by decide

theorem test_LS17 : runs { boot [0xAA] with a := 0x00 } [0x00, 0x00, 0x00, 0xFD, 0x26, 0x8001, 2] [] := by decide

theorem test_LS18 : runs { boot [0xA8] with a := 0x80 } [0x80, 0x00, 0x80, 0xFD, 0xA4, 0x8001, 2] [] := by decide

theorem test_LS19 :
    runs { boot [0x8A] with x := 0x7F, p := 0xA6 }
      [0x7F, 0x7F, 0x00, 0xFD, 0x24, 0x8001, 2] [] := by decide

theorem test_LS20 :
    runs { boot [0x9A] with x := 0x00, p := 0xA4 }
      [0x00, 0x00, 0x00, 0x00, 0xA4, 0x8001, 2] [] := by decide

theorem test_LS21 : runs { boot [0xBA] with sp := 0x80 } [0x00, 0x80, 0x00, 0x80, 0xA4, 0x8001, 2] [] := by decide

theorem test_AL3 :
    runs { boot [0x69, 0x00] with a := 0x7F, p := 0x25 }
      [0x80, 0x00, 0x00, 0xFD, 0xE4, 0x8002, 2] [] := by decide

theorem test_AL5 : runs { boot [0x69, 0x80] with a := 0x80 } [0x00, 0x00, 0x00, 0xFD, 0x67, 0x8002, 2] [] := by decide

theorem test_AL6 :
    runs { boot [0x65, 0x10] with a := 0x09, p := 0x2C, ram := bytes [(0x010, 0x09)] }
      [0x12, 0x00, 0x00, 0xFD, 0x2C, 0x8002, 3] [(0x010, 0x09)] := by decide

theorem test_AL8 :
    runs { boot [0xE9, 0xB0] with a := 0x50, p := 0x25 }
      [0xA0, 0x00, 0x00, 0xFD, 0xE4, 0x8002, 2] [] := by decide

theorem test_AL10 :
    runs { boot [0xE9, 0x00] with a := 0x00, p := 0x24 }
      [0xFF, 0x00, 0x00, 0xFD, 0xA4, 0x8002, 2] [] := by decide

theorem test_AL13 :
    runs { boot [0x29, 0x0F] with a := 0xF0 }
      [0x00, 0x00, 0x00, 0xFD, 0x26, 0x8002, 2] [] := by decide

theorem test_AL14 :
    runs { boot [0x09, 0x80] with a := 0x01 }
      [0x81, 0x00, 0x00, 0xFD, 0xA4, 0x8002, 2] [] := by decide

theorem test_AL16 :
    runs { boot [0x49, 0xFF] with a := 0x0F }
      [0xF0, 0x00, 0x00, 0xFD, 0xA4, 0x8002, 2] [] := by decide

theorem test_AL17 :
    runs { boot [0x24, 0x10] with a := 0x01, ram := bytes [(0x010, 0xC0)] }
      [0x01, 0x00, 0x00, 0xFD, 0xE6, 0x8002, 3] [(0x010, 0xC0)] := by decide

theorem test_AL18 :
    runs { boot [0x24, 0x10] with a := 0xFF, p := 0xE6, ram := bytes [(0x010, 0x3F)] }
      [0xFF, 0x00, 0x00, 0xFD, 0x24, 0x8002, 3] [(0x010, 0x3F)] := by decide

theorem test_AL21 :
    runs { boot [0xC9, 0x41] with a := 0x40 }
      [0x40, 0x00, 0x00, 0xFD, 0xA4, 0x8002, 2] [] := by decide

theorem test_AL23 :
    runs { boot [0xC9, 0x01] with a := 0x81 }
      [0x81, 0x00, 0x00, 0xFD, 0xA5, 0x8002, 2] [] := by decide

theorem test_AL25 :
    runs { boot [0xE0, 0x10] with x := 0x20 }
      [0x00, 0x20, 0x00, 0xFD, 0x25, 0x8002, 2] [] := by decide

theorem test_AL26 :
    runs { boot [0xC0, 0x20] with y := 0x10 }
      [0x00, 0x00, 0x10, 0xFD, 0xA4, 0x8002, 2] [] := by decide

theorem test_AL27 :
    runs { boot [0xE6, 0x10] with ram := bytes [(0x010, 0xFF)] }
      [0x00, 0x00, 0x00, 0xFD, 0x26, 0x8002, 5] [(0x010, 0x00)] := by decide

theorem test_AL28 :
    runs { boot [0xC6, 0x10] with ram := bytes [(0x010, 0x00)] }
      [0x00, 0x00, 0x00, 0xFD, 0xA4, 0x8002, 5] [(0x010, 0xFF)] := by decide

theorem test_AL29 :
    runs { boot [0xFE, 0xFF, 0x02] with x := 0x01, ram := bytes [(0x300, 0x7F)] }
      [0x00, 0x01, 0x00, 0xFD, 0xA4, 0x8003, 7] [(0x300, 0x80)] := by decide

theorem test_VS7_inx : runs { boot [0xE8] with x := 0xFF } [0x00, 0x00, 0x00, 0xFD, 0x26, 0x8001, 2] [] := by decide

theorem test_AL30 : runs { boot [0xC8] with y := 0x7F } [0x00, 0x00, 0x80, 0xFD, 0xA4, 0x8001, 2] [] := by decide

theorem test_AL31 : runs { boot [0xCA] with x := 0x00 } [0x00, 0xFF, 0x00, 0xFD, 0xA4, 0x8001, 2] [] := by decide

theorem test_AL32 : runs { boot [0x88] with y := 0x01 } [0x00, 0x00, 0x00, 0xFD, 0x26, 0x8001, 2] [] := by decide

theorem test_SH1 : runs { boot [0x0A] with a := 0x80 } [0x00, 0x00, 0x00, 0xFD, 0x27, 0x8001, 2] [] := by decide

theorem test_SH2 :
    runs { boot [0x0A] with a := 0x41, p := 0x25 }
      [0x82, 0x00, 0x00, 0xFD, 0xA4, 0x8001, 2] [] := by decide

theorem test_SH3 : runs { boot [0x4A] with a := 0x01 } [0x00, 0x00, 0x00, 0xFD, 0x27, 0x8001, 2] [] := by decide

theorem test_SH5 :
    runs { boot [0x2A] with a := 0x80, p := 0x25 }
      [0x01, 0x00, 0x00, 0xFD, 0x25, 0x8001, 2] [] := by decide

theorem test_SH6 :
    runs { boot [0x2A] with a := 0x40, p := 0x24 }
      [0x80, 0x00, 0x00, 0xFD, 0xA4, 0x8001, 2] [] := by decide

theorem test_SH7 :
    runs { boot [0x6A] with a := 0x01, p := 0x25 }
      [0x80, 0x00, 0x00, 0xFD, 0xA5, 0x8001, 2] [] := by decide

theorem test_SH8 :
    runs { boot [0x6A] with a := 0x01, p := 0x24 }
      [0x00, 0x00, 0x00, 0xFD, 0x27, 0x8001, 2] [] := by decide

theorem test_SH9 :
    runs { boot [0x06, 0x10] with ram := bytes [(0x010, 0xC0)] }
      [0x00, 0x00, 0x00, 0xFD, 0xA5, 0x8002, 5] [(0x010, 0x80)] := by decide

theorem test_SH10 :
    runs { boot [0x5E, 0xFF, 0x02] with x := 0x01, ram := bytes [(0x300, 0x03)] }
      [0x00, 0x01, 0x00, 0xFD, 0x25, 0x8003, 7] [(0x300, 0x01)] := by decide

theorem test_SH11 :
    runs { boot [0x26, 0x10] with p := 0x25, ram := bytes [(0x010, 0x00)] }
      [0x00, 0x00, 0x00, 0xFD, 0x24, 0x8002, 5] [(0x010, 0x01)] := by decide

theorem test_SH12 :
    runs { boot [0x66, 0x10] with p := 0x25, ram := bytes [(0x010, 0x00)] }
      [0x00, 0x00, 0x00, 0xFD, 0xA4, 0x8002, 5] [(0x010, 0x80)] := by decide

theorem test_CF1 :
    runs { bootAt 0x8005 [0xD0, 0xFB] with p := 0x24 }
      [0x00, 0x00, 0x00, 0xFD, 0x24, 0x8002, 3] [] := by decide

theorem test_CF2 :
    runs { bootAt 0x8005 [0xD0, 0xFB] with p := 0x26 }
      [0x00, 0x00, 0x00, 0xFD, 0x26, 0x8007, 2] [] := by decide

theorem test_CF3 :
    runs { bootAt 0x80FC [0xF0, 0x02] with p := 0x26 }
      [0x00, 0x00, 0x00, 0xFD, 0x26, 0x8100, 4] [] := by decide

theorem test_CF4 : runs (boot [0x10, 0x7F]) [0x00, 0x00, 0x00, 0xFD, 0x24, 0x8081, 3] [] := by decide

theorem test_CF5 : runs { boot [0x30, 0x80] with p := 0xA4 } [0x00, 0x00, 0x00, 0xFD, 0xA4, 0x7F82, 4] [] := by decide

theorem test_CF6 : runs (boot [0x90, 0xFE]) [0x00, 0x00, 0x00, 0xFD, 0x24, 0x8000, 3] [] := by decide

theorem test_CF7 : runs (boot [0x4C, 0x34, 0x92]) [0x00, 0x00, 0x00, 0xFD, 0x24, 0x9234, 3] [] := by decide

theorem test_CF8 :
    runs { boot [0x6C, 0x10, 0x02] with ram := bytes [(0x210, 0x00), (0x211, 0x90)] }
      [0x00, 0x00, 0x00, 0xFD, 0x24, 0x9000, 5] [(0x210, 0x00), (0x211, 0x90)] := by decide

theorem test_VS5_jmp_pointer :
    runs { boot [0x6C, 0xFF, 0x02] with ram := bytes [(0x200, 0x40), (0x2FF, 0x80), (0x300, 0x50)] }
      [0x00, 0x00, 0x00, 0xFD, 0x24, 0x4080, 5] [(0x200, 0x40), (0x2FF, 0x80), (0x300, 0x50)] := by decide

theorem test_CF9 :
    runs (bootAt 0x8010 [0x20, 0x34, 0x92])
      [0x00, 0x00, 0x00, 0xFB, 0x24, 0x9234, 6] [(0x1FC, 0x12), (0x1FD, 0x80)] := by decide

theorem test_CF11 :
    runs { boot [0x60] with sp := 0xFB, ram := bytes [(0x1FC, 0xFF), (0x1FD, 0x80)] }
      [0x00, 0x00, 0x00, 0xFD, 0x24, 0x8100, 6] [(0x1FC, 0xFF), (0x1FD, 0x80)] := by decide

theorem test_CF12 :
    runs { boot [0x40] with sp := 0xFA, ram := bytes [(0x1FB, 0xFF), (0x1FC, 0x23), (0x1FD, 0x81)] }
      [0x00, 0x00, 0x00, 0xFD, 0xEF, 0x8123, 6] [(0x1FB, 0xFF), (0x1FC, 0x23), (0x1FD, 0x81)] := by decide

theorem test_CF13 :
    runs { boot [0x40] with sp := 0xFA, ram := bytes [(0x1FB, 0x00), (0x1FC, 0x23), (0x1FD, 0x81)] }
      [0x00, 0x00, 0x00, 0xFD, 0x20, 0x8123, 6] [(0x1FB, 0x00), (0x1FC, 0x23), (0x1FD, 0x81)] := by decide

theorem test_CF15 :
    runs { boot [0x20, 0x00, 0x90] with sp := 0x00 }
      [0x00, 0x00, 0x00, 0xFE, 0x24, 0x9000, 6] [(0x100, 0x80), (0x1FF, 0x02)] := by decide

theorem test_ST2 :
    runs { boot [0x48] with a := 0x42, sp := 0x00 }
      [0x42, 0x00, 0x00, 0xFF, 0x24, 0x8001, 3] [(0x100, 0x42)] := by decide

theorem test_ST4 :
    runs { boot [0x08] with p := 0xCF }
      [0x00, 0x00, 0x00, 0xFC, 0xCF, 0x8001, 3] [(0x1FD, 0xFF)] := by decide

theorem test_ST6 :
    runs { boot [0x68] with sp := 0xFF, ram := bytes [(0x100, 0x80)] }
      [0x80, 0x00, 0x00, 0x00, 0xA4, 0x8001, 4] [(0x100, 0x80)] := by decide

theorem test_ST7 :
    runs { boot [0x28] with sp := 0xFC, ram := bytes [(0x1FD, 0xFF)] }
      [0x00, 0x00, 0x00, 0xFD, 0xEF, 0x8001, 4] [(0x1FD, 0xFF)] := by decide

theorem test_ST8 :
    runs { boot [0x28] with sp := 0xFC, ram := bytes [(0x1FD, 0x00)] }
      [0x00, 0x00, 0x00, 0xFD, 0x20, 0x8001, 4] [(0x1FD, 0x00)] := by decide

theorem test_ST11_18 : runs { boot [0x18] with p := 0x25 } [0x00, 0x00, 0x00, 0xFD, 0x24, 0x8001, 2] [] := by decide

theorem test_ST11_38 : runs { boot [0x38] with p := 0x24 } [0x00, 0x00, 0x00, 0xFD, 0x25, 0x8001, 2] [] := by decide

theorem test_ST11_58 : runs { boot [0x58] with p := 0x24 } [0x00, 0x00, 0x00, 0xFD, 0x20, 0x8001, 2] [] := by decide

theorem test_ST11_78 : runs { boot [0x78] with p := 0x20 } [0x00, 0x00, 0x00, 0xFD, 0x24, 0x8001, 2] [] := by decide

theorem test_ST11_D8 : runs { boot [0xD8] with p := 0x2C } [0x00, 0x00, 0x00, 0xFD, 0x24, 0x8001, 2] [] := by decide

theorem test_ST11_F8 : runs { boot [0xF8] with p := 0x24 } [0x00, 0x00, 0x00, 0xFD, 0x2C, 0x8001, 2] [] := by decide

theorem test_ST11_B8 : runs { boot [0xB8] with p := 0x64 } [0x00, 0x00, 0x00, 0xFD, 0x24, 0x8001, 2] [] := by decide

theorem test_ST12 : runs (boot [0xEA]) [0x00, 0x00, 0x00, 0xFD, 0x24, 0x8001, 2] [] := by decide

theorem test_UD1 :
    runs { boot [0xA7, 0x10] with ram := bytes [(0x010, 0x8F)] }
      [0x8F, 0x8F, 0x00, 0xFD, 0xA4, 0x8002, 3] [(0x010, 0x8F)] := by decide

theorem test_UD2 :
    runs { boot [0xB3, 0x20] with y := 0x01, ram := bytes [(0x020, 0xFF), (0x021, 0x02), (0x300, 0x00)] }
      [0x00, 0x00, 0x01, 0xFD, 0x26, 0x8002, 6] [(0x020, 0xFF), (0x021, 0x02), (0x300, 0x00)] := by decide

theorem test_UD3 :
    runs { boot [0x87, 0x10] with a := 0xF0, x := 0x3C }
      [0xF0, 0x3C, 0x00, 0xFD, 0x24, 0x8002, 3] [(0x010, 0x30)] := by decide

theorem test_UD4 :
    runs { boot [0xC7, 0x10] with a := 0x40, ram := bytes [(0x010, 0x41)] }
      [0x40, 0x00, 0x00, 0xFD, 0x27, 0x8002, 5] [(0x010, 0x40)] := by decide

theorem test_UD5 :
    runs { boot [0xC7, 0x10] with a := 0x40, ram := bytes [(0x010, 0x00)] }
      [0x40, 0x00, 0x00, 0xFD, 0x24, 0x8002, 5] [(0x010, 0xFF)] := by decide

theorem test_UD6 :
    runs { boot [0xE7, 0x10] with a := 0x40, p := 0x25, ram := bytes [(0x010, 0x0F)] }
      [0x30, 0x00, 0x00, 0xFD, 0x25, 0x8002, 5] [(0x010, 0x10)] := by decide

theorem test_UD7 :
    runs { boot [0xE7, 0x10] with a := 0x40, p := 0x24, ram := bytes [(0x010, 0xFF)] }
      [0x3F, 0x00, 0x00, 0xFD, 0x25, 0x8002, 5] [(0x010, 0x00)] := by decide

theorem test_UD8 :
    runs { boot [0x07, 0x10] with a := 0x01, ram := bytes [(0x010, 0xC0)] }
      [0x81, 0x00, 0x00, 0xFD, 0xA5, 0x8002, 5] [(0x010, 0x80)] := by decide

theorem test_UD9 :
    runs { boot [0x27, 0x10] with a := 0xFF, p := 0x25, ram := bytes [(0x010, 0x80)] }
      [0x01, 0x00, 0x00, 0xFD, 0x25, 0x8002, 5] [(0x010, 0x01)] := by decide

theorem test_UD10 :
    runs { boot [0x47, 0x10] with a := 0xFF, ram := bytes [(0x010, 0x03)] }
      [0xFE, 0x00, 0x00, 0xFD, 0xA5, 0x8002, 5] [(0x010, 0x01)] := by decide

theorem test_UD11 :
    runs { boot [0x67, 0x10] with a := 0x10, p := 0x25, ram := bytes [(0x010, 0x03)] }
      [0x92, 0x00, 0x00, 0xFD, 0xA4, 0x8002, 5] [(0x010, 0x81)] := by decide

theorem test_UD12 :
    runs { boot [0x0B, 0xF0] with a := 0x8F }
      [0x80, 0x00, 0x00, 0xFD, 0xA5, 0x8002, 2] [] := by decide

theorem test_UD13 :
    runs { boot [0x2B, 0x0F] with a := 0x8F, p := 0x25 }
      [0x0F, 0x00, 0x00, 0xFD, 0x24, 0x8002, 2] [] := by decide

theorem test_UD14 :
    runs { boot [0x4B, 0x03] with a := 0xFF }
      [0x01, 0x00, 0x00, 0xFD, 0x25, 0x8002, 2] [] := by decide

theorem test_UD17 :
    runs { boot [0x6B, 0xFF] with a := 0x80, p := 0x24 }
      [0x40, 0x00, 0x00, 0xFD, 0x65, 0x8002, 2] [] := by decide

theorem test_UD18 :
    runs { boot [0x6B, 0x7F] with a := 0xFF, p := 0x24 }
      [0x3F, 0x00, 0x00, 0xFD, 0x64, 0x8002, 2] [] := by decide

theorem test_UD20 :
    runs { boot [0xCB, 0x10] with a := 0xF0, x := 0x3C }
      [0xF0, 0x20, 0x00, 0xFD, 0x25, 0x8002, 2] [] := by decide

theorem test_UD21 :
    runs { boot [0xCB, 0x31] with a := 0xF0, x := 0x3C }
      [0xF0, 0xFF, 0x00, 0xFD, 0xA4, 0x8002, 2] [] := by decide

theorem test_UD23 :
    runs { boot [0xEB, 0x01] with a := 0x00, p := 0x25 }
      [0xFF, 0x00, 0x00, 0xFD, 0xA4, 0x8002, 2] [] := by decide

theorem test_UD24 :
    runs { boot [0xBB, 0x00, 0x03] with sp := 0xF0, ram := bytes [(0x300, 0x3C)] }
      [0x30, 0x30, 0x00, 0x30, 0x24, 0x8003, 4] [(0x300, 0x3C)] := by decide

theorem test_UD25 :
    runs { boot [0xBB, 0xFF, 0x02] with y := 0x01, sp := 0xF0, ram := bytes [(0x300, 0x0F)] }
      [0x00, 0x00, 0x01, 0x00, 0x26, 0x8003, 5] [(0x300, 0x0F)] := by decide

theorem test_UD26 : runs (boot [0x04, 0x10]) [0x00, 0x00, 0x00, 0xFD, 0x24, 0x8002, 3] [] := by decide

theorem test_UD26_imm : runs (boot [0x80, 0x10]) [0x00, 0x00, 0x00, 0xFD, 0x24, 0x8002, 2] [] := by decide

theorem test_UD27 :
    runs { boot [0x1C, 0xFF, 0x10] with x := 0x01 }
      [0x00, 0x01, 0x00, 0xFD, 0x24, 0x8003, 5] [] := by decide

theorem test_UD27_same_page :
    runs { boot [0x1C, 0x00, 0x10] with x := 0x01 }
      [0x00, 0x01, 0x00, 0xFD, 0x24, 0x8003, 4] [] := by decide

theorem test_UD29 :
    runs { boot [0xE3, 0x10] with a := 0x40, x := 0x04, p := 0x25, ram := bytes [(0x014, 0x00), (0x015, 0x03), (0x300, 0x0F)] }
      [0x30, 0x04, 0x00, 0xFD, 0x25, 0x8002, 8] [(0x014, 0x00), (0x015, 0x03), (0x300, 0x10)] := by decide

/-! ### Fatal conditions, halting, devices -/

/-- LS16: a store to ROM. -/
theorem test_LS16 :
    ends (step { boot [0x8D, 0x00, 0x80] with a := 0x3C }) (fun t =>
      t.run == .faulted (.romWrite 0x8000 0x3C) && cpu t == [0x3C, 0, 0, 0xFD, 0x24, 0x8000, 0] && t.ppu.dot == 0) =
      true := by
  decide

/-- SH13: a shift of ROM reads PRG[0] = 0x0E and faults on the write of 0x1C. -/
theorem test_SH13 :
    ends (step (boot [0x0E, 0x00, 0x80])) (fun t =>
      t.run == .faulted (.romWrite 0x8000 0x1C) && t.pc == 0x8000 && t.cycles == 0) = true := by
  decide

/-- AL33: the read half of INC $2002 stands, the write half faults. -/
theorem test_AL33 :
    ends (step { boot [0xEE, 0x02, 0x20] with ppu := { Ppu.powerOn with status := 0x80, addrLatch := .low } }) (fun t =>
      t.run == .faulted (.ppuStatusWrite 0x81) && t.pc == 0x8000 && t.cycles == 0 && t.ppu.status == 0 &&
        t.ppu.addrLatch == .high) = true := by
  decide

/-- UD30: 9C 00 03 has no table entry. -/
theorem test_UD30 :
    ends (step (boot [0x9C, 0x00, 0x03])) (fun t =>
      t.run == .faulted (.illegalOpcode 0x9C 0x8000) && cpu t == [0, 0, 0, 0xFD, 0x24, 0x8000, 0]) = true := by
  decide

/-- CF14: BRK halts, and the halted machine takes no step. -/
theorem test_CF14 :
    ends (step (bootAt 0x8004 [0x00])) (fun t =>
      t.run == .halted && cpu t == [0, 0, 0, 0xFD, 0x24, 0x8005, 0] && ends (step t) (fun _ => true) == false) = true := by
  decide

/-- LS22: LDA $2002 reads the status, clears vblank and resets the latches. -/
theorem test_LS22 :
    ends (step { boot [0xAD, 0x02, 0x20] with ppu := { Ppu.powerOn with status := 0x80, addrLatch := .low } }) (fun t =>
      cpu t == [0x80, 0, 0, 0xFD, 0xA4, 0x8003, 4] && t.ppu.status == 0 && t.ppu.addrLatch == .high &&
        t.ppu.dot == 12) = true := by
  decide

/-- UD28: *NOP $2002 performs the read. -/
theorem test_UD28 :
    ends (step { boot [0x0C, 0x02, 0x20] with ppu := { Ppu.powerOn with status := 0x80, scrollLatch := .second } })
      (fun t => cpu t == [0, 0, 0, 0xFD, 0x24, 0x8003, 4] && t.ppu.status == 0 && t.ppu.scrollLatch == .first) = true := by
  decide

/-- The state after a list of bus writes, a fatal one stopping the list. -/
def writes (l : List (Addr × Byte)) (s : State) : State :=
  l.foldl
    (fun s w =>
      match memWrite w.1 w.2 s with
      | .ok _ t => t
      | .fatal k t => t.raise k)
    s

/-- A completed read's value and the state after it. -/
def readBack (a : Addr) (s : State) : Option (Byte × State) :=
  match memRead a s with
  | .ok b t => some (b, t)
  | .fatal _ _ => none

/-- BUS3, BUS4: write-only registers and the ignored ranges read 0. -/
theorem test_BUS_zero :
    ([0x2000, 0x2001, 0x2003, 0x2005, 0x2006, 0x4014, 0x4015, 0x4016, 0x4017, 0x4020, 0x6000, 0x7FFF] : List Addr).all
      (fun a => readBack a (boot []) == some (0, boot [])) = true := by
  decide

/-- BUS7: 0x3456 is register 6 and 0x3FFA is register 2. -/
theorem test_BUS7 :
    (writes [(0x3456, 0x12), (0x3456, 0x34)] (boot [])).ppu.v = 0x1234 ∧
    (writes [(0x3FFA, 0x01)] (boot [])).run = .faulted (.ppuStatusWrite 0x01) := by
  decide

/-- PR4 to PR6: the address wraps at 14 bits, palette reads are immediate, the step of 32 wraps. -/
theorem test_PR5 :
    let s := writes [(0x2006, 0xFF), (0x2006, 0xFF), (0x2007, 0x12)] (boot [])
    s.ppu.palette = [(0x1F, 0x12)] ∧ s.ppu.v = 0 := by
  decide

/-- PR7: the step of 32 in VRAM. -/
theorem test_PR7 :
    let s := writes [(0x2000, 0x04), (0x2006, 0x20), (0x2006, 0x00), (0x2007, 0x01), (0x2007, 0x02)] (boot [])
    s.ppu.vram = [(0x000, 0x01), (0x020, 0x02)] ∧ s.ppu.v = 0x2040 := by
  decide

/-- PR8: 0x2800 is the second bank under Horizontal and the first under Vertical. -/
theorem test_PR8 :
    (writes [(0x2006, 0x28), (0x2006, 0x00), (0x2007, 0x28)] (boot [])).ppu.vram = [(0x400, 0x28)] ∧
    (writes [(0x2006, 0x28), (0x2006, 0x00), (0x2007, 0x28)]
      { boot [] with cart := { Cartridge.blank with mirroring := .vertical } }).ppu.vram = [(0x000, 0x28)] := by
  decide

/-- PR9 and PR17: the two fatal accesses of the data port. -/
theorem test_PR9_PR17 :
    memRead 0x2007 (writes [(0x2006, 0x30), (0x2006, 0x00)] (boot [])) =
      .fatal (.ppuAddrUnused 0x3000) (writes [(0x2006, 0x30), (0x2006, 0x00)] (boot [])) ∧
    (writes [(0x2006, 0x20), (0x2006, 0x00), (0x2007, 0x01)]
      { boot [] with cart := { Cartridge.blank with mirroring := .fourScreen } }).run =
      .faulted .unsupportedMirroring := by
  decide

/-- PR11: OAM data writes step the OAM address, wrapping. -/
theorem test_PR11 :
    let s := writes [(0x2003, 0xFE), (0x2004, 0xAA), (0x2004, 0xBB), (0x2004, 0xCC)] (boot [])
    s.ppu.oam = [(0x00, 0xCC), (0xFE, 0xAA), (0xFF, 0xBB)] ∧ s.ppu.oamAddr = 0x01 := by
  decide

/-- PR13: DMA of page 2 from OAM address 4. -/
theorem test_PR13 :
    let s := writes [(0x2003, 0x04), (0x4014, 0x02)]
      { boot [] with ram := bytes [(0x201, 0x01), (0x2FB, 0xFB), (0x2FC, 0xFC), (0x2FF, 0xFF)] }
    s.ppu.oam = [(0x00, 0xFC), (0x03, 0xFF), (0x05, 0x01), (0xFF, 0xFB)] ∧ s.ppu.oamAddr = 0x04 := by
  decide +kernel

/-- PR15: the first data read returns the old buffer. -/
theorem test_PR15 :
    let s := writes [(0x2006, 0x00), (0x2006, 0x10)]
      { boot [] with cart := { Cartridge.blank with chr := bytes [(0x0010, 0x41)] } }
    ((readBack 0x2007 s).bind fun r => (readBack 0x2007 r.2).map fun q => (r.1, q.1, q.2.ppu.v)) =
      some (0x00, 0x41, 0x0012) := by
  decide

/-- PT2, PT5: the dot that reaches (241, 1), without and with NMI generation. -/
theorem test_PT2_PT5 :
    let s := { boot [] with ppu := { Ppu.powerOn with scanline := 240, dot := 339 } }
    let t := tick 1 s
    let u := tick 1 { s with ppu := { s.ppu with ctrl := 0x80 } }
    (t.ppu.scanline, t.ppu.dot, t.ppu.status, t.ppu.pendingNmi, t.frameReady) = (241, 1, 0x80, false, false) ∧
    (u.ppu.status, u.ppu.pendingNmi, u.frameReady) = (0x80, true, true) := by
  decide

/-- PT4, PT8: the wrap clears vblank and withdraws the request. -/
theorem test_PT4_PT8 :
    let s := { boot [] with ppu := { Ppu.powerOn with scanline := 261, dot := 339, status := 0x80, pendingNmi := true } }
    ((tick 1 s).ppu.scanline, (tick 1 s).ppu.dot, (tick 1 s).ppu.status, (tick 1 s).ppu.pendingNmi) =
      (0, 1, 0x00, false) := by
  decide

/-- PT9 to PT11: the request raised by a Control write is for the 0 to 1 edge, in vblank. -/
theorem test_PT11 :
    let s := { boot [] with ppu := { Ppu.powerOn with status := 0x80 } }
    (writes [(0x2000, 0x80)] s).ppu.pendingNmi = true ∧
    (writes [(0x2000, 0x80)] { s with ppu := { s.ppu with ctrl := 0x80 } }).ppu.pendingNmi = false := by
  decide

/-- A machine with a pending request, the handler at 0x9000. -/
def nmiBoot (handler : Byte) : State :=
  { boot [] with
    pc := 0x8123, p := 0xA5, ppu := { Ppu.powerOn with pendingNmi := true }
    cart := { Cartridge.blank with prg := bytes [(0x1000, handler), (0x7FFB, 0x90)] } }

/-- NMI1: entry, then the handler's NOP, in one step. -/
theorem test_NMI1 :
    runs (nmiBoot 0xEA) [0, 0, 0, 0xFA, 0xA5, 0x9001, 9] [(0x1FD, 0x81), (0x1FC, 0x23), (0x1FB, 0xA5)] := by decide

/-- NMI2: the pushed byte has Break1 = 0 and Break2 = 1; the register keeps its own. -/
theorem test_NMI2 : runs { nmiBoot 0xEA with p := 0x30 } [0, 0, 0, 0xFA, 0x34, 0x9001, 9] [(0x1FB, 0x20)] := by decide

/-- NMI3: the frame wraps in page 1. -/
theorem test_NMI3 :
    runs { nmiBoot 0xEA with sp := 0x01 } [0, 0, 0, 0xFE, 0xA5, 0x9001, 9] [(0x101, 0x81), (0x100, 0x23), (0x1FF, 0xA5)] := by
  decide

/-- NMI4: BRK in the handler halts after the entry. -/
theorem test_NMI4 :
    ends (step (nmiBoot 0x00)) (fun t => t.run == .halted && cpu t == [0, 0, 0, 0xFA, 0xA5, 0x9001, 7]) = true := by
  decide

/-- RST1, RST2, BUS6: reset() reads the vector, through the 16 KiB mirror, and leaves a faulted machine faulted. -/
theorem test_RST :
    (resetCpu { boot [] with a := 1, x := 2, sp := 3, p := 0xFF, run := .halted, cycles := 9 }) =
      { boot [] with cycles := 9 } ∧
    (resetCpu { boot [] with run := .faulted .unsupportedMirroring }).run = .faulted .unsupportedMirroring ∧
    (resetCpu { boot [] with cart := { Cartridge.blank with prgSize := .k16, prg := bytes [(0x3FFD, 0xC0)] } }).pc =
      0xC000 := by
  decide

/-- V-JOY: strobing reads repeat button A; then the buttons come in order. -/
theorem test_JOY :
    let s := writes [(0x4016, 0x01)]
      { boot [] with joy := { Joypad.powerOn with buttons := 0x89, index := 5 }, cfg := { Params.default with joypadPresent := true } }
    let u := writes [(0x4016, 0x00)] s
    ((readBack 0x4016 s).bind fun r => (readBack 0x4016 r.2).map fun q => (r.1, q.1)) = some (1, 1) ∧
    ((readBack 0x4016 u).bind fun r => (readBack 0x4016 r.2).map fun q => (r.1, q.1, q.2.joy.index)) = some (1, 0, 2) ∧
    (readBack 0x4016 { u with joy := { u.joy with index := 8 } }).map (·.1) = some 1 := by
  decide

/-! ### The picture (V-RN) -/

/-- The common set-up of V-RN: tile 1, the palette, and OAM with every sprite at Y = 0xF0 but those given. -/
def tileCart : Cartridge :=
  { Cartridge.blank with
    chr := Memory.ofBytesFrom 0x10
      [0x41, 0xC2, 0x44, 0x48, 0x10, 0x20, 0x40, 0x80, 0x01, 0x02, 0x04, 0x08, 0x16, 0x21, 0x42, 0x87] }

/-- See `tileCart`. -/
def tilePpu (vram palette : List (Nat × Byte)) (sprites : List (Byte × Byte × Byte × Byte)) : Ppu :=
  { Ppu.powerOn with
    vram := bytes vram
    palette := bytes ([(0x00, 0x0F), (0x09, 0x21), (0x0B, 0x30), (0x11, 0x16), (0x13, 0x27)] ++ palette)
    oam := Memory.ofBytes
      ((sprites ++ List.replicate (64 - sprites.length) (0xF0, 0, 0, 0)).flatMap fun (q : Byte × Byte × Byte × Byte) => [q.1, q.2.1, q.2.2.1, q.2.2.2]) }

/-- The first `n` colours of row `y`. -/
def rowStart (u : Ppu) (y n : Nat) : List Colour := (List.range n).map fun x => pixelAt tileCart u y x

/-- RN1, row 1: the background's tile and a flipped sprite. -/
theorem test_RN1 :
    rowStart (tilePpu [(0x000, 0x01), (0x3C0, 0x02)] [] [(0, 1, 0x40, 4)]) 1 12 =
      [0x21, 0x21, 0x0F, 0x0F, 0x0F, 0x27, 0x30, 0x0F, 0x0F, 0x0F, 0x16, 0x16] := by
  decide +kernel

/-- RN2, row 0: the second nametable enters at column 4. -/
theorem test_RN2 :
    rowStart
      { tilePpu [(0x000, 0x01), (0x3C0, 0x02), (0x400, 0x01), (0x7C0, 0x01)] [(0x05, 0x11), (0x07, 0x12)]
          [(0, 1, 0x40, 4)] with scrollX := 252 } 0 16 =
      [0x0F, 0x0F, 0x0F, 0x0F, 0x27, 0x11, 0x0F, 0x0F, 0x0F, 0x0F, 0x16, 0x12, 0x0F, 0x0F, 0x0F, 0x0F] := by
  decide +kernel

/-- RN3, row 4: the second nametable enters from below. -/
theorem test_RN3 :
    rowStart
      { tilePpu [(0x000, 0x01), (0x3C0, 0x02), (0x400, 0x01), (0x7C0, 0x01)] [(0x05, 0x11), (0x07, 0x12)] [] with
        scrollY := 236 } 4 8 =
      [0x0F, 0x11, 0x0F, 0x0F, 0x0F, 0x0F, 0x0F, 0x12] := by
  decide +kernel

/-- RN4, row 7: the lower-numbered sprite shows where both are opaque. -/
theorem test_RN4 :
    rowStart
      (tilePpu [] [(0x12, 0x2A), (0x15, 0x05), (0x16, 0x06), (0x17, 0x07)] [(0, 1, 0x80, 0), (0, 1, 0x01, 0)]) 7 8 =
      [0x07, 0x16, 0x0F, 0x0F, 0x0F, 0x06, 0x06, 0x27] := by
  decide +kernel

/-- R424, row 0, by the arithmetic of PictureIsItsTopmostLayer. -/
theorem test_R424_shownAt :
    (List.range 12).map (fun x => shownAt tileCart (tilePpu [(0x000, 0x01), (0x3C0, 0x02)] [] [(0, 1, 0x40, 4)]) x 0) =
      [0x0F, 0x21, 0x0F, 0x0F, 0x27, 0x0F, 0x0F, 0x30, 0x0F, 0x0F, 0x16, 0x0F] := by
  decide +kernel


/-- D27: under `FourScreen` the halves are used as `Horizontal` uses them in R413's table. -/
theorem test_D27_fourScreen_banks :
    ([0, 1, 2, 3] : List Byte).map (fun n =>
        (mainBank .fourScreen { Ppu.powerOn with ctrl := n }, secondBank .fourScreen { Ppu.powerOn with ctrl := n })) =
      [(0, 1), (0, 1), (1, 0), (1, 0)] := by
  decide
/-! ### Witnesses: states and operands that meet the hypotheses of each statement, clause by clause -/

/-- DecodeOfEncode, LengthFollowsTheMode: well-formed instructions, `ill` among them, and a proper prefix. -/
theorem witness_wellFormed : (Instr.ldaAbs 0xFFFF).wf = true ∧ (Instr.ill 0x9C).wf = true ∧ 2 < (Instr.ldaAbs 0).length := by
  decide

/-- EncodeOfDecode: a list that decodes and leaves a rest. -/
theorem witness_EncodeOfDecode : decode [0xFF, 0xFF, 0xFF, 0x00] = .ok (.isbAbsx 0xFFFF, [0x00]) := rfl

/-- ExactlyTwentyFiveBytesAreIllegal: the second clause. -/
theorem witness_illegalByte : instrOf 0x9C 0xFF 0xFF = .ill 0x9C := rfl

/-- StepRunsTheDecodedInstruction: three bytes in ROM, and three that wrap from 0xFFFF to 0x0000. -/
theorem witness_StepRunsTheDecodedInstruction :
    (let s := boot [0x4C, 0x34, 0x92]
     s.run = .running ∧ s.ppu.pendingNmi = false ∧
      ∀ k, k < 3 → storedByte s (s.pc + BitVec.ofNat 16 k) = ([0x4C, 0x34, 0x92] : List Byte)[k]?) ∧
    (let s := { bootAt 0xFFFF [0xA9] with ram := bytes [(0x000, 0x77)] }
     s.run = .running ∧ s.ppu.pendingNmi = false ∧
      ∀ k, k < 2 → storedByte s (s.pc + BitVec.ofNat 16 k) = ([0xA9, 0x77] : List Byte)[k]?) := by
  decide

/-- A machine whose PC is the PPU status register. -/
def pcAtStatus (status : Byte) : State :=
  { boot [] with pc := 0x2002, ppu := { Ppu.powerOn with status := status } }

/-- StepFetchesFromAnyAddress: a fetch that gives an instruction from a device, and a fatal one. -/
theorem witness_StepFetchesFromAnyAddress :
    (pcAtStatus 0xEA).run = .running ∧
    fetch (pcAtStatus 0xEA) = .ok .nop { pcAtStatus 0xEA with ppu := { Ppu.powerOn with status := 0x6A } } ∧
    (let s := { boot [] with pc := 0x2001, cfg := { Params.default with strictWriteOnlyRead := true } }
     s.run = .running ∧ fetch s = .fatal (.writeOnlyRead 0x2001) s) := by
  decide

/-- IllegalOpcodeFaults: the byte in ROM, and the byte of a register with a side effect. -/
theorem witness_IllegalOpcodeFaults :
    (0x02 : Byte) ∈ illegalOpcodes ∧ memRead 0x8000 (boot [0x02]) = .ok 0x02 (boot [0x02]) ∧
    (0x9B : Byte) ∈ illegalOpcodes ∧
    memRead 0x2002 (pcAtStatus 0x9B) = .ok 0x9B { pcAtStatus 0x9B with ppu := { Ppu.powerOn with status := 0x1B } } := by
  decide

/-- StepIsDefinedExactlyWhenRunning: the three run states. -/
theorem witness_runStates :
    State.reset.run = .running ∧ ({ State.reset with run := .halted } : State).run = .halted ∧
    ({ State.reset with run := .faulted .unsupportedMirroring } : State).run = .faulted .unsupportedMirroring := by
  decide

/-- PendingNmiIsEnteredFirst, RtiResumesWhatTheNmiPreceded: both values of the request, the stack wrapping. -/
theorem witness_pendingNmi :
    State.reset.ppu.pendingNmi = false ∧
    (let s := { nmiBoot 0x40 with sp := 0x00 }
     BreakBitsFixed s ∧ s.ppu.pendingNmi = true ∧
      (match pollNmi s with
       | .ok _ e => e.sp == 0xFD && e.pc == 0x9000
       | .fatal _ _ => false) = true) := by
  decide

/-- PendingNmiIsEnteredFirst: the fetch after an entry gives the instruction at the vector's target, the fetch with no
request pending the one at PC, and a fetch that is fatal. -/
theorem witness_polledFetch :
    (nmiBoot 0x40).run = .running ∧ (nmiBoot 0x40).ppu.pendingNmi = true ∧
    fetch (polled { nmiBoot 0x40 with frameReady := false }) =
      .ok .rti (polled { nmiBoot 0x40 with frameReady := false }) ∧
    fetch (polled { boot [0xEA] with frameReady := false }) = .ok .nop (boot [0xEA]) ∧
    (let s := { boot [] with pc := 0x2001, cfg := { Params.default with strictWriteOnlyRead := true } }
     s.run = .running ∧ fetch (polled { s with frameReady := false }) = .fatal (.writeOnlyRead 0x2001) s) := by
  decide +kernel

/-- A machine one cycle before vblank onset (PT1), with NMI generation on. -/
def beforeVblank : State :=
  { boot [0xEA] with cycles := 27393, ppu := { Ppu.powerOn with ctrl := 0x80, scanline := 240, dot := 339 } }

/-- The invariants' statements: a state that meets every invariant, whose step raises vblank and the request. -/
theorem witness_invariants :
    MemoriesCanonical beforeVblank ∧ PpuOnSchedule beforeVblank ∧ VblankInPeriod beforeVblank ∧
    BreakBitsFixed beforeVblank ∧ StatusBitsFixed beforeVblank ∧ beforeVblank.joy.index ≤ 8 ∧
    ends (step beforeVblank) (fun t => t.ppu.status == 0x80 && t.ppu.pendingNmi && t.cycles == 27395) = true := by
  decide

/-- OnlyBrkHalts: BRK on a running machine. -/
theorem witness_OnlyBrkHalts :
    State.reset.run = .running ∧ ends (exec .brk State.reset) (fun t => t.run == .halted) = true := by
  decide

/-- FatalStateIsPrecise: an instruction that faults after it has shifted the carry out, and the two fatal accesses. -/
theorem witness_FatalStateIsPrecise :
    (let s := boot [0x0E, 0x03, 0x80, 0x80]
     s.run = .running ∧ ends (exec (.aslAbs 0x8003) s) (fun t => t.run == .faulted (.romWrite 0x8003 0x00)) = true) ∧
    (let s := { boot [] with ppu := { Ppu.powerOn with v := 0x3000 } }
     memRead 0x3FFF s = .fatal (.ppuAddrUnused 0x3000) s) ∧
    memWrite 0xFFFF 0x01 (boot []) = .fatal (.romWrite 0xFFFF 0x01) (boot []) := by
  decide

/-- OnlyTransfersMoveThePc: an instruction that wraps PC. -/
theorem witness_OnlyTransfersMoveThePc :
    Mnemonic.lda ∉ ([.bpl, .bmi, .bvc, .bvs, .bcc, .bcs, .bne, .beq, .jmp, .jsr, .rts, .rti, .brk, .ill] : List Mnemonic) ∧
    (Instr.ldaImm 0).mnemonic = .lda ∧
    ends (exec (.ldaImm 0) { boot [] with pc := 0xFFFF }) (fun t => t.run == .running && t.pc == 0x0001) = true := by
  decide

/-- EffectiveAddresses: an operand at the last byte of RAM's mirrors and one at the first of ROM. -/
theorem witness_EffectiveAddresses :
    (let s := { boot [0x42] with ram := bytes [(0x7FF, 0x24)] }
     effAddr (.abs 0x1FFF) s = .ok (0x1FFF, false) s ∧ storedByte s 0x1FFF = some 0x24 ∧
     effAddr (.absx 0x8000) s = .ok (0x8000, false) s ∧ storedByte s 0x8000 = some 0x42) := by
  decide

/-- The bus statements: the first and last address of each region and register mirror. -/
theorem witness_addressRegions :
    (0x0000 : Addr).toNat < 0x2000 ∧ (0x1FFF : Addr).toNat < 0x2000 ∧ ppuReg 0x2000 0 ∧ ppuReg 0x3FF8 0 ∧ ppuReg 0x2001 1 ∧
    ppuReg 0x3FF9 1 ∧ ppuReg 0x2002 2 ∧ ppuReg 0x3FFA 2 ∧ ppuReg 0x3FFB 3 ∧ ppuReg 0x3FFC 4 ∧ ppuReg 0x3FFD 5 ∧
    ppuReg 0x3FFE 6 ∧ ppuReg 0x2007 7 ∧ ppuReg 0x3FFF 7 ∧
    0x4000 ≤ (0x4000 : Addr).toNat ∧ (0x7FFF : Addr).toNat < 0x8000 ∧ (0x4000 : Addr) ≠ 0x4014 ∧
    (0x7FFF : Addr) ≠ 0x4014 ∧ (0x7FFF : Addr) ≠ 0x4016 ∧ (boot []).cfg.joypadPresent = false ∧
    0x8000 ≤ (0x8000 : Addr).toNat ∧ 0x8000 ≤ (0xFFFF : Addr).toNat := by
  decide

/-- DataReadIsBuffered, DataWriteIsImmediate: `v` at the ends of its four ranges, and the three arrangements. -/
theorem witness_dataPort :
    (0x1FFF : PpuAddr).toNat < 0x2000 ∧ 0x2000 ≤ (0x2000 : PpuAddr).toNat ∧ (0x2FFF : PpuAddr).toNat < 0x3000 ∧
    0x3000 ≤ (0x3000 : PpuAddr).toNat ∧ (0x3EFF : PpuAddr).toNat < 0x3F00 ∧ 0x3F00 ≤ (0x3F00 : PpuAddr).toNat ∧
    0x3F00 ≤ (0x3FFF : PpuAddr).toNat ∧
    ([.vertical, .horizontal, .fourScreen] : List Mirroring).all (fun mi =>
      ({ boot [] with cart := { Cartridge.blank with mirroring := mi } } : State).cart.mirroring == mi) = true := by
  decide

/-- ScrollAndAddressLatches: both positions of each latch. -/
theorem witness_latches :
    Ppu.powerOn.scrollLatch = .first ∧ (scrollWrite 0 Ppu.powerOn).scrollLatch = .second ∧
    Ppu.powerOn.addrLatch = .high ∧ (addressWrite 0 Ppu.powerOn).addrLatch = .low := by
  decide

/-- DmaCopiesAPage: the ends of its page ranges, and a joypad read for page 0x40. -/
theorem witness_DmaCopiesAPage :
    (0x1F : Byte).toNat < 0x20 ∧ 0x80 ≤ (0x80 : Byte).toNat ∧ 0x80 ≤ (0xFF : Byte).toNat ∧ 0x20 ≤ (0x20 : Byte).toNat ∧
    (0x3F : Byte).toNat < 0x40 ∧ 0x40 ≤ (0x40 : Byte).toNat ∧ (0x7F : Byte).toNat < 0x80 ∧
    (boot []).cfg.joypadPresent = false ∧ (boot []).cfg.strictWriteOnlyRead = false ∧
    (let s := { boot [] with
       joy := { strobe := false, index := 0, buttons := 1 }, cfg := { Params.default with joypadPresent := true } }
     s.cfg.joypadPresent = true ∧ s.cfg.strictWriteOnlyRead = false ∧
      memRead 0x4016 s = .ok 1 { s with joy := { s.joy with index := 1 } }) := by
  decide

/-- DmaCopiesAPage: a DMA from the last page of the register window that completes. -/
theorem witness_dmaWindow :
    (match memWrite 0x4014 0x3F (boot []) with
     | .ok n _ => n == 0
     | .fatal _ _ => false) = true := by
  decide +kernel

/-- The state before byte `i` of a DMA from page 0x1F. -/
def dmaState (i : Nat) : State :=
  i.rec (boot []) fun i t => withOamByte (t.ram.read (ramIndex (hilo 0x1F (BitVec.ofNat 8 i)))) t

/-- DmaCopiesAPage: a DMA all of whose 256 reads complete. -/
theorem witness_dmaReads :
    dmaState 0 = boot [] ∧
    DmaReads 0x1F 256 dmaState fun i => (dmaState i).ram.read (ramIndex (hilo 0x1F (BitVec.ofNat 8 i))) :=
  ⟨rfl, fun i _ =>
    ⟨dmaState i, memRead_of_ram ((by decide : ∀ b : Byte, (hilo 0x1F b).toNat < 0x2000) _) _, rfl⟩⟩

/-- A machine on which a read of a write-only register is fatal. -/
def strictBoot : State := { boot [] with cfg := { Params.default with strictWriteOnlyRead := true } }

/-- DmaCopiesAPage: a DMA whose first read is fatal. -/
theorem witness_dmaFirstFatal :
    strictBoot.cfg.strictWriteOnlyRead = true ∧ DmaReads 0x20 0 (fun _ => strictBoot) (fun _ => 0) ∧
    memRead (hilo 0x20 (BitVec.ofNat 8 0)) strictBoot = .fatal (.writeOnlyRead 0x2000) strictBoot :=
  ⟨rfl, fun _ h => absurd h (Nat.not_lt_zero _), rfl⟩

/-- A machine whose Data register is fatal to read, with `i` bytes of a DMA stored. -/
def dataFatal (i : Nat) : State :=
  { boot [] with ppu := { Ppu.powerOn with v := 0x3000, oamAddr := BitVec.ofNat 8 i } }

/-- DmaCopiesAPage: a DMA whose eighth read is fatal, after seven that complete. -/
theorem witness_dmaEighthFatal :
    DmaReads 0x20 7 dataFatal (fun _ => 0) ∧
    memRead (hilo 0x20 (BitVec.ofNat 8 7)) (dataFatal 7) = .fatal (.ppuAddrUnused 0x3000) (dataFatal 7) :=
  ⟨fun i hi =>
    ⟨dataFatal i,
      (by decide : ∀ i < 7, memRead (hilo 0x20 (BitVec.ofNat 8 i)) (dataFatal i) = .ok 0 (dataFatal i) ∧
        dataFatal (i + 1) = withOamByte 0 (dataFatal i)) i hi⟩, rfl⟩

/-- JoypadShiftsItsButtons: present and absent, index 7 and 8, strobe on and off. -/
theorem witness_JoypadShiftsItsButtons :
    (let s := { boot [] with joy := { strobe := true, index := 7, buttons := 0x80 }, cfg := { Params.default with joypadPresent := true } }
     s.cfg.joypadPresent = true ∧ s.joy.index ≤ 7 ∧ s.joy.strobe = true ∧
      ({ s.joy with strobe := false } : Joypad).strobe = false ∧ 7 < ({ s.joy with index := 8 } : Joypad).index) ∧
    (boot []).cfg.joypadPresent = false := by
  decide

/-- ReadsAreIdempotentElsewhere: OAM data, the neighbours of the two registers, and ROM. -/
theorem witness_ReadsAreIdempotentElsewhere :
    ([0x2001, 0x2003, 0x2004, 0x2006, 0x3FFE, 0x4017, 0x6002, 0x8002, 0xFFFF] : List Addr).all (fun a =>
      a &&& 0xE007 != 0x2002 && a &&& 0xE007 != 0x2007 && a != 0x4016 && (readBack a (boot [])).isSome) = true := by
  decide

/-- RamReadAfterWrite: two mirrors of one byte, and the two ends of RAM. -/
theorem witness_RamReadAfterWrite :
    (0x1FFF : Addr).toNat < 0x2000 ∧ (0x07FF : Addr).toNat < 0x2000 ∧
    (0x1FFF : Addr).toNat % 0x800 = (0x07FF : Addr).toNat % 0x800 := by decide

/-- DotAdvanceAndItsEvents, TickAdvancesThreeDotsPerCycle: each clause's positions, in range. -/
theorem witness_DotAdvanceAndItsEvents :
    (let u := { Ppu.powerOn with scanline := 241, dot := 0 }; u.scanline ≤ 261 ∧ u.dot ≤ 340 ∧ u.scanline = 241 ∧ u.dot = 0) ∧
    (let u := { Ppu.powerOn with scanline := 261, dot := 340 }; u.scanline = 261 ∧ u.dot = 340) ∧
    (let u := { Ppu.powerOn with scanline := 241, dot := 339 }; u.dot < 340 ∧ ¬(u.scanline = 241 ∧ u.dot = 0)) ∧
    (let u := { Ppu.powerOn with scanline := 260, dot := 340 }; u.scanline < 261 ∧ u.dot = 340) := by
  decide

/-- FrameRaisesVblankOnce: power-on, and the ends of its two ranges. -/
theorem witness_FrameRaisesVblankOnce :
    Ppu.powerOn.scanline = 0 ∧ Ppu.powerOn.dot = 0 ∧ Ppu.powerOn.pendingNmi = false ∧
    Ppu.powerOn.status.getLsbD 7 = false ∧ 82181 < 82182 ∧ 82182 ≤ 82182 ∧ 89341 < 89342 := by
  decide

/-- The statements of instructions that read (loads, arithmetic, logic, compares, undocumented reads): an operand that is
readable, with and without a crossed page, from a device too, and one whose access is fatal. -/
theorem witness_readOperand :
    (let s := { boot [] with x := 1, y := 1, ram := bytes [(0x100, 0x5A)], ppu := { Ppu.powerOn with v := 0x3000 } }
     readOperand (.imm 0xFF) s = .ok (0xFF, false) s ∧
     readOperand (.mem (.absx 0x10FF)) s = .ok (0x5A, true) s ∧
     readOperand (.mem (.absy 0xFFFF)) s = .ok (0x00, true) s ∧
     readOperand (.mem (.zpx 0xFF)) s = .ok (0x00, false) s ∧
     readOperand (.mem (.zpy 0xFF)) s = .ok (0x00, false) s ∧
     readOperand (.mem (.zp 0xFF)) s = .ok (0x00, false) s ∧
     readOperand (.mem (.indx 0xFF)) s = .ok (0x00, false) s ∧
     readOperand (.mem (.indy 0xFF)) s = .ok (0x00, false) s ∧
     readOperand (.mem (.abs 0x2004)) s = .ok (0x00, false) s ∧
     readOperand (.mem (.abs 0x2007)) s = .fatal (.ppuAddrUnused 0x3000) s) := by
  decide

/-- The statements of instructions that write (stores, read-modify-writes): an address whose accesses complete, one whose
write is fatal, one whose read is fatal. -/
theorem witness_writes :
    (let s := { boot [] with x := 1, ppu := { Ppu.powerOn with v := 0x3000 } }
     effAddr (.absx 0xFFFF) s = .ok (0x0000, true) s ∧ memRead 0x0000 s = .ok 0 s ∧
     memWrite 0x0000 0x80 s = .ok 0 { s with ram := [(0, 0x80)] } ∧
     effAddr (.abs 0x8000) s = .ok (0x8000, false) s ∧ memRead 0x8000 s = .ok 0 s ∧
     memWrite 0x8000 0x01 s = .fatal (.romWrite 0x8000 0x01) s ∧
     effAddr (.abs 0x2007) s = .ok (0x2007, false) s ∧ memRead 0x2007 s = .fatal (.ppuAddrUnused 0x3000) s) := by
  decide

/-- BranchesFollowTheirFlag: both values of a flag. -/
theorem witness_branchFlags : getFlag 0x24 .z = false ∧ getFlag 0x26 .z = true := by decide

/-- JumpsCallsAndReturns: a pointer whose two reads complete, one whose first and one whose second read is fatal. -/
theorem witness_jumpPointer :
    (let s := { boot [] with ram := bytes [(0x2FF, 0x80), (0x200, 0x40)] }
     memRead 0x02FF s = .ok 0x80 s ∧ memRead (hilo (hiByte 0x02FF) (loByte 0x02FF + 1)) s = .ok 0x40 s) ∧
    (let s := { boot [] with ppu := { Ppu.powerOn with v := 0x3000 } }
     memRead 0x2007 s = .fatal (.ppuAddrUnused 0x3000) s ∧
     memRead 0x20F6 s = .ok 0 s ∧
     memRead (hilo (hiByte 0x20F6) (loByte 0x20F6 + 1)) s = .fatal (.ppuAddrUnused 0x3000) s) := by
  decide

/-- ReadingInstructionsStoreNothing, RegisterInstructionsTouchNoMemory: instructions of their lists, LAS among them. -/
theorem witness_instructionLists :
    (Instr.lasAbsy 0).mnemonic = .las ∧ (Instr.nopAbsxFC 0xFFFF).mnemonic = .nopU ∧ Instr.nop.mnemonic = .nop ∧
    (Instr.beq 0x80).mnemonic = .beq ∧ Instr.rorAcc.mode = .acc ∧
    ends (exec (.ldaAbs 0x2002) (pcAtStatus 0x80)) (fun t => t.a == 0x80) = true := by
  decide

/-- StoresToRamWriteOneByte, ModifiesInRamWriteOneByte: an effective address at the last byte below 0x2000. -/
theorem witness_ramStores :
    (let s := { boot [] with x := 0xFF }
     (Instr.staAbsx 0x1F00).mnemonic = .sta ∧ (Instr.staAbsx 0x1F00).mode = .mem (.absx 0x1F00) ∧
     (Instr.rraAbsx 0x1F00).mnemonic = .rra ∧ (Instr.rraAbsx 0x1F00).mode = .mem (.absx 0x1F00) ∧
     effAddr (.absx 0x1F00) s = .ok (0x1FFF, false) s ∧ (0x1FFF : Addr).toNat < 0x2000) := by
  decide

/-- WritesToRomAreFatal: effective addresses at both ends of ROM. -/
theorem witness_WritesToRomAreFatal :
    (Instr.saxAbs 0x8000).mnemonic = .sax ∧ (Instr.saxAbs 0x8000).mode = .mem (.abs 0x8000) ∧
    effAddr (.abs 0x8000) State.reset = .ok (0x8000, false) State.reset ∧ 0x8000 ≤ (0x8000 : Addr).toNat ∧
    (Instr.incAbs 0xFFFF).mnemonic = .inc ∧ (Instr.incAbs 0xFFFF).mode = .mem (.abs 0xFFFF) ∧
    effAddr (.abs 0xFFFF) State.reset = .ok (0xFFFF, false) State.reset ∧ 0x8000 ≤ (0xFFFF : Addr).toNat := by
  decide

/-- SubtractThenAdd: V-S2's five rows of A, carry in and A at the end, with the carry the SBC leaves. -/
theorem witness_SubtractThenAdd :
    ([(0x40, 0x10, 0x25, 0x41, true), (0x40, 0x10, 0x24, 0x40, true), (0x10, 0x40, 0x25, 0x10, false),
      (0x10, 0x40, 0x24, 0x0F, false), (0x80, 0x01, 0x25, 0x81, true)] : List (Byte × Byte × Byte × Byte × Bool)).all
      (fun q => ends (exec (.sbcImm q.2.1) { boot [] with a := q.1, p := q.2.2.1 }) (fun t =>
        t.flag .c == q.2.2.2.2 && ends (exec (.adcImm q.2.1) t) (fun u => u.a == q.2.2.2.1))) = true := by
  decide

/-- PictureIsItsTopmostLayer, PictureReadsOnlyItsInputs: the last pixel, and two states that differ elsewhere alone. -/
theorem witness_picture :
    255 < 256 ∧ 239 < 240 ∧
    (let u := { Ppu.powerOn with ctrl := 0x1B }
     let w := { Ppu.powerOn with ctrl := 0xFF, mask := 0xFF, status := 0x80, v := 1, oamAddr := 1 }
     u.ctrl &&& 0x1B = w.ctrl &&& 0x1B ∧ u.scrollX = w.scrollX ∧ u.scrollY = w.scrollY ∧ u.vram = w.vram ∧
      u.palette = w.palette ∧ u.oam = w.oam) := by
  decide

/-- InesImageLoads: the header bits of both clauses of its first part, and one image for each error. -/
theorem witness_InesImageLoads :
    ((0xF3 : Byte) >>> 2) &&& 3 = 0 ∧ (List.replicate 8 (0 : Byte)).length = 8 ∧
    (if (0x04 : Byte).getLsbD 2 then 512 else 0) = 512 ∧
    ([] : List Byte).length = (if (0xFB : Byte).getLsbD 2 then 512 else 0) ∧
    ([0x4E, 0x45, 0x53, 0x1A] : List Byte).length < 16 ∧
    (let image : List Byte := [0x4E, 0x45, 0x53, 0x00, 1, 1, 0, 0, 0, 0, 0, 0, 0, 0, 0, 0]
     16 ≤ image.length ∧ image.take 4 ≠ [0x4E, 0x45, 0x53, 0x1A]) ∧
    (let image : List Byte := [0x4E, 0x45, 0x53, 0x1A, 1, 1, 0, 0x08, 0, 0, 0, 0, 0, 0, 0, 0]
     16 ≤ image.length ∧ image.take 4 = [0x4E, 0x45, 0x53, 0x1A] ∧ (image.getD 7 0 >>> 2) &&& 3 ≠ 0) := by
  decide

/-- InesImageLoads: byte lists of the two sizes of PRG, the size of CHR and of a trainer. -/
theorem witness_imageSizes :
    (List.replicate 16384 (0 : Byte)).length = PrgSize.k16.bytes ∧
    (List.replicate 32768 (0 : Byte)).length = PrgSize.k32.bytes ∧ (List.replicate 8192 (0 : Byte)).length = 8192 ∧
    (List.replicate 512 (0 : Byte)).length = 512 :=
  ⟨List.length_replicate, List.length_replicate, List.length_replicate, List.length_replicate⟩

/-- An image of one PRG page and one CHR page, every byte of them zero. -/
def zeroImage : List Byte :=
  [0x4E, 0x45, 0x53, 0x1A, 1, 1, 0, 0, 0, 0, 0, 0, 0, 0, 0, 0] ++ List.replicate 24576 0

theorem zeroImage_length : zeroImage.length = 24592 := by
  rw [zeroImage, List.length_append, List.length_replicate]
  rfl

theorem zeroImage_loads : ∃ cart, parseInes zeroImage = .ok cart := by
  unfold parseInes
  rw [zeroImage_length, if_neg (by decide), if_neg (fun h => h rfl), if_neg (fun h => h rfl)]
  exact ⟨_, (if_neg (fun h => h rfl)).trans (if_neg (by decide))⟩

/-- ResetMeetsEveryInvariant: an image that gives a machine, and one that gives an error. -/
theorem witness_bringUp :
    (∃ t, bringUp Params.default zeroImage Launch.zero = .ok t) ∧ parseInes [] = .error .tooShort := by
  obtain ⟨cart, h⟩ := zeroImage_loads
  exact ⟨⟨resetCpu (powerOn Params.default cart Launch.zero), by simp only [bringUp, h]⟩, rfl⟩

/-- ResetMeetsEveryInvariant: launch memories and a cartridge in canonical form, with bytes at both ends. -/
theorem witness_launch :
    MemoriesCanonical (powerOn Params.default (boot [0xEA]).cart
      { a := 1, x := 2, y := 3, sp := 4, p := 5, pc := 6, ram := [(0, 1), (0x7FF, 1)], vram := [(0, 2), (0x7FF, 2)]
        palette := [(0, 3), (0x1F, 3)], oam := [(0, 4), (0xFF, 5)] }) := by
  decide


end Sys2Proof.Tests
end

section
/-!
PROOFS. What no step breaks of 00_scope.md: the canonical form of the six memories (R6, log 12), and the cartridge and the
parameters (R7, R8). Both are stable properties in the sense of Laws/Stable.lean: each update of the state keeps them.
-/

namespace Sys2Proof.Machine

open Sys2Proof.Claims

/-! ### The canonical form -/

/-- The three memories of the PPU are in canonical form. -/
def Ppu.Canonical (u : Ppu) : Prop := u.vram.wf 2048 ∧ u.palette.wf 32 ∧ u.oam.wf 256

theorem memoriesCanonical_setRam {s : State} {m : Memory} (hm : s.ram.wf 2048 → m.wf 2048) (h : MemoriesCanonical s) :
    MemoriesCanonical (s.setRam m) := by
  obtain ⟨hram, hrest⟩ := h
  exact ⟨hm hram, hrest⟩

theorem memoriesCanonical_setPpu {s : State} {u : Ppu} (hu : s.ppu.Canonical → u.Canonical)
    (h : MemoriesCanonical s) : MemoriesCanonical (s.setPpu u) := by
  obtain ⟨hram, hv, hp, ho, hrom⟩ := h
  obtain ⟨hv', hp', ho'⟩ := hu ⟨hv, hp, ho⟩
  exact ⟨hram, hv', hp', ho', hrom⟩

/-- Every index the palette is accessed at is inside it (R95). -/
theorem palIndex_lt (a : PpuAddr) : palIndex a < 32 := by
  simp only [palIndex]
  split <;> omega

theorem Ppu.Canonical.dataRead {cart : Cartridge} {u w : Ppu} {b : Byte} (hr : dataRead cart u = .ok (b, w))
    (h : u.Canonical) : w.Canonical := by
  obtain rfl | ⟨_, rfl⟩ := ppuMemRead_of_dataRead hr
  · exact h
  · exact h

theorem Ppu.Canonical.dataWrite {cart : Cartridge} {u w : Ppu} {b : Byte} (hw : dataWrite cart b u = .ok w)
    (h : u.Canonical) : w.Canonical := by
  obtain ⟨hv, hp, ho⟩ := h
  obtain rfl | ⟨i, hi, rfl⟩ | rfl := dataWrite_ok hw
  · exact ⟨hv, hp, ho⟩
  · exact ⟨Memory.wf_write b hi hv, hp, ho⟩
  · exact ⟨hv, Memory.wf_write b (palIndex_lt u.v) hp, ho⟩

theorem Ppu.Canonical.oamDataWrite {u : Ppu} (b : Byte) (h : u.Canonical) : (oamDataWrite b u).Canonical := by
  obtain ⟨hv, hp, ho⟩ := h
  exact ⟨hv, hp, Memory.wf_write b u.oamAddr.isLt ho⟩

theorem Ppu.Canonical.scrollWrite {u : Ppu} (b : Byte) (h : u.Canonical) : (scrollWrite b u).Canonical := by
  unfold Machine.scrollWrite
  split
  · exact h
  · exact h

theorem Ppu.Canonical.addressWrite {u : Ppu} (b : Byte) (h : u.Canonical) : (addressWrite b u).Canonical := by
  unfold Machine.addressWrite
  split
  · exact h
  · exact h

theorem Ppu.Canonical.advanceDots {u : Ppu} (n : Nat) (h : u.Canonical) : (advanceDots n u).Canonical := by
  simpa [Ppu.Canonical] using h

/-- Every update of a step keeps the canonical form: only RAM, VRAM, palette and OAM are written, each inside
its size. -/
theorem stable_memoriesCanonical : Stable MemoriesCanonical where
  ram _ b hi h := memoriesCanonical_setRam (Memory.wf_write b hi) h
  statusRead h := h
  dataRead hr h := memoriesCanonical_setPpu (.dataRead hr) h
  control _ h := h
  mask _ h := h
  oamAddr _ h := h
  oamData b h := memoriesCanonical_setPpu (.oamDataWrite b) h
  scroll b h := memoriesCanonical_setPpu (.scrollWrite b) h
  address b h := memoriesCanonical_setPpu (.addressWrite b) h
  dataWrite hw h := memoriesCanonical_setPpu (.dataWrite hw) h
  joyRead h := h
  joyWrite _ h := h
  regs _ _ _ _ _ _ _ h := h
  flag _ _ _ _ h := h
  restored _ h := h
  request h := h
  tick n h := memoriesCanonical_setPpu (.advanceDots (3 * n)) h

/-- Settles O12: the canonical form is a stable property. -/
theorem stepKeepsMemoriesCanonical : Obligations.StepKeepsMemoriesCanonical :=
  fun _ _ h ht => stable_memoriesCanonical.step h ht

/-! ### The cartridge and the parameters -/

/-- `t` has the cartridge, the parameters and the buttons of `s`. -/
def SameParameters (s t : State) : Prop := t.cart = s.cart ∧ t.cfg = s.cfg ∧ t.joy.buttons = s.joy.buttons

theorem SameParameters.setJoy {s t : State} {j : Joypad} (hj : j.buttons = t.joy.buttons) (h : SameParameters s t) :
    SameParameters s (t.setJoy j) := by
  obtain ⟨hcart, hcfg, hbuttons⟩ := h
  exact ⟨hcart, hcfg, hj.trans hbuttons⟩

@[simp] theorem joypadReadEffect_buttons (j : Joypad) : (joypadReadEffect j).buttons = j.buttons := by
  unfold joypadReadEffect
  split <;> rfl

/-- No update of a step writes the cartridge, the parameters or the buttons. A data access goes to the
PPU's own memories, so no case on its address is needed: a write to CHR is among those that leave the cartridge (R92),
and a write to ROM is fatal and makes no update (R75). -/
theorem stable_sameParameters (s : State) : Stable (SameParameters s) where
  ram _ _ _ h := h
  statusRead h := h
  dataRead _ h := h
  control _ h := h
  mask _ h := h
  oamAddr _ h := h
  oamData _ h := h
  scroll _ h := h
  address _ h := h
  dataWrite _ h := h
  joyRead h := h.setJoy (joypadReadEffect_buttons _)
  joyWrite _ h := h.setJoy rfl
  regs _ _ _ _ _ _ _ h := h
  flag _ _ _ _ h := h
  restored _ h := h
  request h := h
  tick _ h := h

/-- Settles O17: having the parameters of the state before the step is a stable property, which that state has. -/
theorem stepNeverChangesTheCartridge : Obligations.StepNeverChangesTheCartridge :=
  fun s _ ht => (stable_sameParameters s).step ⟨rfl, rfl, rfl⟩ ht

end Sys2Proof.Machine
end

section
/-!
PROOFS. The state of 10_state.md: the bits and the index that no step moves from their fixed values (R24, R33, R470), the
machine that bring-up gives (R48, R480, R482), and the two-byte stack accesses (R28, R29).
-/

namespace Sys2Proof.Machine

open Sys2Proof.Claims

/-! ### The fixed bits of `P` -/

theorem breakBitsFixed_setFlag {s : State} {f : Flag} (b : Bool) (h1 : f ≠ .b1) (h2 : f ≠ .b2)
    (h : BreakBitsFixed s) : BreakBitsFixed (s.setFlag f b) := by
  obtain ⟨hb1, hb2⟩ := h
  constructor
  · exact (getFlag_putFlag s.p f .b1 b).trans ((if_neg h1.symm).trans hb1)
  · exact (getFlag_putFlag s.p f .b2 b).trans ((if_neg h2.symm).trans hb2)

/-- A step writes `P` flag by flag, never a Break bit, or restores it from the stack with both Break bits at
their fixed values (R264, R284). -/
theorem stable_breakBitsFixed : Stable BreakBitsFixed where
  ram _ _ _ h := h
  statusRead h := h
  dataRead _ h := h
  control _ h := h
  mask _ h := h
  oamAddr _ h := h
  oamData _ h := h
  scroll _ h := h
  address _ h := h
  dataWrite _ h := h
  joyRead h := h
  joyWrite _ h := h
  regs _ _ _ _ _ _ _ h := h
  flag _ b h1 h2 h := breakBitsFixed_setFlag b h1 h2 h
  restored b _ := ⟨getFlag_restoredP_b1 b, getFlag_restoredP_b2 b⟩
  request h := h
  tick _ h := h

/-! ### The fixed bits of the PPU status -/

/-- Bits 6 to 0 of the PPU status are 0: `StatusBitsFixed`, of the PPU alone. -/
def Ppu.StatusFixed (u : Ppu) : Prop := u.status &&& 0x7F = 0

/-- Clearing bits sets none. -/
theorem statusFixed_and {p : Byte} (m : Byte) (h : p &&& 0x7F = 0) : p &&& m &&& 0x7F = 0 := by
  rw [BitVec.and_assoc, BitVec.and_comm m, ← BitVec.and_assoc, h]
  exact BitVec.zero_and

/-- Vblank is bit 7, so setting it sets none of the others. -/
theorem statusFixed_or_vblank {p : Byte} (h : p &&& 0x7F = 0) : (p ||| 0x80) &&& 0x7F = 0 := by
  revert p
  decide

theorem Ppu.StatusFixed.dataRead {cart : Cartridge} {u w : Ppu} {b : Byte} (hr : dataRead cart u = .ok (b, w))
    (h : u.StatusFixed) : w.StatusFixed := by
  obtain rfl | ⟨_, rfl⟩ := ppuMemRead_of_dataRead hr
  · exact h
  · exact h

theorem Ppu.StatusFixed.dataWrite {cart : Cartridge} {u w : Ppu} {b : Byte} (hw : dataWrite cart b u = .ok w)
    (h : u.StatusFixed) : w.StatusFixed := by
  obtain rfl | ⟨_, _, rfl⟩ | rfl := dataWrite_ok hw
  · exact h
  · exact h
  · exact h

theorem Ppu.StatusFixed.scrollWrite {u : Ppu} (b : Byte) (h : u.StatusFixed) : (scrollWrite b u).StatusFixed := by
  unfold Machine.scrollWrite
  split
  · exact h
  · exact h

theorem Ppu.StatusFixed.addressWrite {u : Ppu} (b : Byte) (h : u.StatusFixed) : (addressWrite b u).StatusFixed := by
  unfold Machine.addressWrite
  split
  · exact h
  · exact h

theorem Ppu.StatusFixed.countDot {u : Ppu} (h : u.StatusFixed) : (countDot u).StatusFixed := by
  obtain ⟨_, _, e⟩ | ⟨_, _, e⟩ | ⟨_, e⟩ := countDot_cases u
  · rw [e]; exact statusFixed_and 0x3F h
  · rw [e]; exact h
  · rw [e]; exact h

/-- The frame wrap clears bits of the status, and vblank onset sets bit 7 alone (R393, R394). -/
theorem Ppu.StatusFixed.dotAdvance {u : Ppu} (h : u.StatusFixed) : (dotAdvance u).StatusFixed := by
  have hc := h.countDot
  unfold Machine.dotAdvance
  dsimp only
  split
  · exact statusFixed_and 0xBF (statusFixed_or_vblank hc)
  · exact hc

theorem Ppu.StatusFixed.advanceDots {u : Ppu} (n : Nat) (h : u.StatusFixed) : (advanceDots n u).StatusFixed :=
  advanceDots_keeps (I := Ppu.StatusFixed) (fun _ hu => hu.dotAdvance) n h

/-- Only a status read and the dots of a `Tick` write the status. -/
theorem stable_statusBitsFixed : Stable StatusBitsFixed where
  ram _ _ _ h := h
  statusRead h := statusFixed_and 0x7F h
  dataRead hr h := Ppu.StatusFixed.dataRead hr h
  control _ h := h
  mask _ h := h
  oamAddr _ h := h
  oamData _ h := h
  scroll b h := Ppu.StatusFixed.scrollWrite b h
  address b h := Ppu.StatusFixed.addressWrite b h
  dataWrite hw h := Ppu.StatusFixed.dataWrite hw h
  joyRead h := h
  joyWrite _ h := h
  regs _ _ _ _ _ _ _ h := h
  flag _ _ _ _ h := h
  restored _ h := h
  request h := h
  tick n h := Ppu.StatusFixed.advanceDots (3 * n) h

/-! ### The joypad's index -/

/-- The joypad's index is in the range of R470. -/
def JoypadIndexInRange (s : State) : Prop := s.joy.index ≤ 8

/-- A read moves the index on only from 7 or below (R472). -/
theorem joypadReadEffect_index_le {j : Joypad} (h : j.index ≤ 8) : (joypadReadEffect j).index ≤ 8 := by
  unfold joypadReadEffect
  split
  · exact h
  · next hn => exact Nat.succ_le_succ (Nat.le_of_not_gt fun hgt => hn (.inl hgt))

/-- A write leaves the index or sets it to 0 (R471). -/
theorem joypadWrite_index_le {j : Joypad} (b : Byte) (h : j.index ≤ 8) : (joypadWrite b j).index ≤ 8 := by
  unfold joypadWrite
  dsimp only
  split
  · exact Nat.zero_le 8
  · exact h

theorem stable_joypadIndexInRange : Stable JoypadIndexInRange where
  ram _ _ _ h := h
  statusRead h := h
  dataRead _ h := h
  control _ h := h
  mask _ h := h
  oamAddr _ h := h
  oamData _ h := h
  scroll _ h := h
  address _ h := h
  dataWrite _ h := h
  joyRead h := joypadReadEffect_index_le h
  joyWrite b h := joypadWrite_index_le b h
  regs _ _ _ _ _ _ _ h := h
  flag _ _ _ _ h := h
  restored _ h := h
  request h := h
  tick _ h := h

/-- Settles O15: each of the three facts is a stable property. -/
theorem stepKeepsTheFixedBits : Obligations.StepKeepsTheFixedBits :=
  fun _ _ ht =>
    ⟨fun h => stable_breakBitsFixed.step h ht, fun h => stable_statusBitsFixed.step h ht,
      fun h => stable_joypadIndexInRange.step h ht⟩

/-! ### Bring-up -/

/-- The vector reads of `reset()` are reads of `PRG`, so it ends in R48's machine. -/
theorem resetCpu_powerOn (cfg : Params) (cart : Cartridge) (l : Launch) :
    resetCpu (powerOn cfg cart l) = broughtUp cfg cart l := by
  unfold resetCpu resetAccess
  rw [memRead2_of_prg (by decide) (by decide)]
  rfl

theorem broughtUp_ppuOnSchedule (cfg : Params) (cart : Cartridge) (l : Launch) :
    PpuOnSchedule (broughtUp cfg cart l) :=
  ⟨Nat.zero_le _, Nat.zero_le _, by simp [broughtUp]⟩

theorem broughtUp_vblankInPeriod (cfg : Params) (cart : Cartridge) (l : Launch) :
    VblankInPeriod (broughtUp cfg cart l) := by
  refine ⟨Nat.zero_le _, Nat.zero_le _, ?_⟩
  rintro (hvblank | hrequest)
  · simp [broughtUp] at hvblank
  · cases hrequest

/-- Only the canonical form depends on the launch state and the cartridge; the rest holds of the register values of
R48. -/
theorem broughtUp_meetsEveryInvariant {cfg : Params} {cart : Cartridge} {l : Launch}
    (h : MemoriesCanonical (powerOn cfg cart l)) : MeetsEveryInvariant (broughtUp cfg cart l) :=
  have hbreak : getFlag 0x24 .b1 = false ∧ getFlag 0x24 .b2 = true := by decide
  have hstatus : (0 : Byte) &&& 0x7F = 0 := by decide
  ⟨h, broughtUp_ppuOnSchedule cfg cart l, broughtUp_vblankInPeriod cfg cart l, hbreak, hstatus, Nat.zero_le 8, rfl⟩

theorem bringUp_of_parseInes_ok {image : List Byte} {cart : Cartridge} (h : parseInes image = .ok cart)
    (cfg : Params) (l : Launch) : bringUp cfg image l = .ok (broughtUp cfg cart l) := by
  simp only [bringUp, h, resetCpu_powerOn]

theorem bringUp_of_parseInes_error {image : List Byte} {e : LoadError} (h : parseInes image = .error e)
    (cfg : Params) (l : Launch) : bringUp cfg image l = .error e := by
  simp only [bringUp, h]

/-- A machine brought up from an image has the canonical form: its cartridge by `parseInes_wf`, the other memories by
that of the launch state. -/
theorem bringUp_meetsEveryInvariant {cfg : Params} {image : List Byte} {l : Launch} {t : State}
    (hram : l.ram.wf 2048) (hvram : l.vram.wf 2048) (hpalette : l.palette.wf 32) (hoam : l.oam.wf 256)
    (h : bringUp cfg image l = .ok t) : MeetsEveryInvariant t := by
  cases hp : parseInes image with
  | ok cart =>
    rw [bringUp_of_parseInes_ok hp] at h
    cases h
    exact broughtUp_meetsEveryInvariant ⟨hram, hvram, hpalette, hoam, parseInes_wf hp⟩
  | error e =>
    rw [bringUp_of_parseInes_error hp] at h
    cases h

theorem reset_eq_broughtUp : State.reset = broughtUp Params.default Cartridge.blank Launch.zero :=
  reset_eq_resetCpu_powerOn.trans (resetCpu_powerOn _ _ _)

theorem reset_meetsEveryInvariant : MeetsEveryInvariant State.reset := by
  rw [reset_eq_broughtUp]
  exact broughtUp_meetsEveryInvariant reset_memories_wf

/-- Settles O16: power-on and `reset()` give R48's machine for every cartridge and launch state, and that machine meets
every invariant. -/
theorem resetMeetsEveryInvariant : Obligations.ResetMeetsEveryInvariant := by
  refine ⟨resetCpu_powerOn, ?_, ?_, ?_, reset_eq_broughtUp, reset_meetsEveryInvariant⟩
  · intro cfg cart l h
    rw [resetCpu_powerOn]
    exact broughtUp_meetsEveryInvariant h
  · intro cfg image l
    exact ⟨fun _ h => bringUp_of_parseInes_ok h cfg l, fun _ h => bringUp_of_parseInes_error h cfg l⟩
  · intro cfg image l t hram hvram hpalette hoam h
    exact bringUp_meetsEveryInvariant hram hvram hpalette hoam h

/-! ### The two-byte stack accesses -/

/-- `RAM` after `Push16(w)` with stack pointer `sp` (R28): high byte first, each at its own stack byte. -/
def pushedWord (m : Memory) (sp : Byte) (w : Addr) : Memory :=
  (m.write (256 + sp.toNat) (hiByte w)).write (256 + (sp - 1).toNat) (loByte w)

theorem push16_eq (w : Addr) (s : State) :
    push16 w s = .ok () ((s.setRam (pushedWord s.ram s.sp w)).setSp (s.sp - 2)) := by
  have hsp : s.sp - 1 - 1 = s.sp - 2 := by bv_omega
  simp only [push16, push_eq, Access.andThen_ok, State.setSp_sp, State.setSp_ram, State.setRam_ram, hsp]
  rfl

theorem pop16_eq (s : State) :
    pop16 s = .ok (hilo (s.ram.read (256 + (s.sp + 2).toNat)) (s.ram.read (256 + (s.sp + 1).toNat)))
      (s.setSp (s.sp + 2)) := by
  have hsp : s.sp + 1 + 1 = s.sp + 2 := by bv_omega
  simp only [pop16, pop_eq, Access.andThen_ok, State.setSp_sp, State.setSp_ram, hsp]
  rfl

theorem pushedWord_read_hi (m : Memory) (sp : Byte) (w : Addr) :
    (pushedWord m sp w).read (256 + sp.toNat) = hiByte w := by
  have hne : 256 + sp.toNat ≠ 256 + (sp - 1).toNat := by bv_omega
  rw [pushedWord, Memory.read_write_other _ _ hne, Memory.read_write_same]

theorem pushedWord_read_lo (m : Memory) (sp : Byte) (w : Addr) :
    (pushedWord m sp w).read (256 + (sp - 1).toNat) = loByte w :=
  Memory.read_write_same _ _ _

/-- The pop finds both bytes where the push put them, since adding 2 and 1 to the lowered pointer gives back the
two stack bytes modulo 256. -/
theorem pop16_pushedWord (w : Addr) (s : State) :
    pop16 ((s.setRam (pushedWord s.ram s.sp w)).setSp (s.sp - 2)) =
      .ok w ((s.setRam (pushedWord s.ram s.sp w)).setSp s.sp) := by
  have hhi : s.sp - 2 + 2 = s.sp := by bv_omega
  have hlo : s.sp - 2 + 1 = s.sp - 1 := by bv_omega
  rw [pop16_eq]
  simp only [State.setSp_sp, State.setSp_ram, State.setRam_ram, hhi, hlo, pushedWord_read_hi, pushedWord_read_lo,
    hilo_hiByte_loByte]
  rfl

/-- Settles O32: both accesses in one equation each, and the read after the two writes. -/
theorem stackRoundTrip : Obligations.StackRoundTrip :=
  fun w s => ⟨push16_eq w s, pop16_pushedWord w s, pop16_eq s⟩

end Sys2Proof.Machine
end

section
/-!
PROOFS. The memory of 20_memory.md: the CPU address map row by row (R61 to R75), which reads have an effect (R84), and what
instructions do to memory through it: those that read store nothing (R105, R128), those that write to ROM fault (R75).
-/

namespace Sys2Proof.Machine

open Sys2Proof.Claims

/-! ### The rows of the address map, for reads -/

/-- A register of the PPU window that cannot be read, or the DMA port (R67, R73). -/
abbrev WriteOnlyRegister (a : Addr) : Prop :=
  ppuReg a 0 ∨ ppuReg a 1 ∨ ppuReg a 3 ∨ ppuReg a 5 ∨ ppuReg a 6 ∨ a = 0x4014

theorem memRead_of_writeOnlyRegister {a : Addr} (h : WriteOnlyRegister a) (s : State) :
    memRead a s = writeOnlyRead a s := by
  have window : ∀ {r}, ppuReg a r → r ≠ 2 → r ≠ 4 → r ≠ 7 → memRead a s = writeOnlyRead a s := by
    rintro r ⟨hlo, hhi, rfl⟩ h2 h4 h7
    rw [memRead_of_ppu hlo hhi, ppuRegRead]
    split
    · next h => exact absurd h h2
    · next h => exact absurd h h4
    · next h => exact absurd h h7
    · rfl
  obtain h | h | h | h | h | rfl := h
  case inr.inr.inr.inr.inr => rfl
  all_goals exact window h (by decide) (by decide) (by decide)

theorem memRead_of_statusRegister {a : Addr} (h : ppuReg a 2) (s : State) :
    memRead a s = .ok s.ppu.status (s.setPpu (statusReadEffect s.ppu)) := by
  obtain ⟨hlo, hhi, hr⟩ := h
  simp only [memRead_of_ppu hlo hhi, ppuRegRead, hr]

theorem memRead_of_oamDataRegister {a : Addr} (h : ppuReg a 4) (s : State) :
    memRead a s = .ok (oamDataRead s.ppu) s := by
  obtain ⟨hlo, hhi, hr⟩ := h
  simp only [memRead_of_ppu hlo hhi, ppuRegRead, hr]

/-- The addresses of 0x4000 to 0x7FFF at which no device answers (R72). -/
theorem memRead_of_noDevice {a : Addr} {s : State} (hlo : 0x4000 ≤ a.toNat) (hhi : a.toNat < 0x8000) (hdma : a ≠ 0x4014)
    (hjoy : a ≠ 0x4016 ∨ s.cfg.joypadPresent = false) : memRead a s = .ok 0 s := by
  have hdma' : a.toNat ≠ 0x4014 := fun h => hdma (BitVec.eq_of_toNat_eq h)
  rw [memRead, if_neg (by omega), if_neg (by omega), if_neg hdma']
  split
  · next h =>
    have habsent := hjoy.resolve_left fun hne => hne (BitVec.eq_of_toNat_eq h)
    simp [joypadRead, habsent]
  · rfl

/-- Settles O22: the rows of the map, one lemma each. -/
theorem busReadFollowsTheAddressMap : Obligations.BusReadFollowsTheAddressMap :=
  fun _ s =>
    ⟨fun h => memRead_of_ram h s, fun h => memRead_of_writeOnlyRegister h s, fun h => memRead_of_statusRegister h s,
      fun h => memRead_of_oamDataRegister h s, memRead_of_noDevice, fun h => memRead_of_prg h s⟩

/-! ### The rows of the address map, for writes -/

theorem memWrite_of_maskRegister {a : Addr} (h : ppuReg a 1) (b : Byte) (s : State) :
    memWrite a b s = .ok 0 (s.setPpu (maskWrite b s.ppu)) := by
  obtain ⟨hlo, hhi, hr⟩ := h
  simp only [memWrite_of_ppu hlo hhi, ppuRegWrite, hr]

theorem memWrite_of_statusRegister {a : Addr} (h : ppuReg a 2) (b : Byte) (s : State) :
    memWrite a b s = .fatal (.ppuStatusWrite b) s := by
  obtain ⟨hlo, hhi, hr⟩ := h
  simp only [memWrite_of_ppu hlo hhi, ppuRegWrite, hr]

theorem memWrite_of_oamAddrRegister {a : Addr} (h : ppuReg a 3) (b : Byte) (s : State) :
    memWrite a b s = .ok 0 (s.setPpu (oamAddrWrite b s.ppu)) := by
  obtain ⟨hlo, hhi, hr⟩ := h
  simp only [memWrite_of_ppu hlo hhi, ppuRegWrite, hr]

theorem memWrite_of_oamDataRegister {a : Addr} (h : ppuReg a 4) (b : Byte) (s : State) :
    memWrite a b s = .ok 0 (s.setPpu (oamDataWrite b s.ppu)) := by
  obtain ⟨hlo, hhi, hr⟩ := h
  simp only [memWrite_of_ppu hlo hhi, ppuRegWrite, hr]

/-- The addresses of 0x4000 to 0x7FFF at which no device takes the byte (R72). -/
theorem memWrite_of_noDevice {a : Addr} {s : State} (b : Byte) (hlo : 0x4000 ≤ a.toNat) (hhi : a.toNat < 0x8000)
    (hdma : a ≠ 0x4014) (hjoy : a ≠ 0x4016 ∨ s.cfg.joypadPresent = false) : memWrite a b s = .ok 0 s := by
  have hdma' : a.toNat ≠ 0x4014 := fun h => hdma (BitVec.eq_of_toNat_eq h)
  rw [memWrite, if_neg (by omega), if_neg (by omega), if_neg hdma']
  split
  · next h =>
    have habsent := hjoy.resolve_left fun hne => hne (BitVec.eq_of_toNat_eq h)
    simp [joypadPortWrite, habsent]
  · rfl

/-- Settles O24: the rows of the map, one lemma each. -/
theorem busWriteFollowsTheAddressMap : Obligations.BusWriteFollowsTheAddressMap :=
  fun _ b s =>
    ⟨fun h => memWrite_of_ram h b s, fun h => memWrite_of_maskRegister h b s, fun h => memWrite_of_statusRegister h b s,
      fun h => memWrite_of_oamAddrRegister h b s, fun h => memWrite_of_oamDataRegister h b s, memWrite_of_noDevice b,
      fun h => memWrite_of_prg h b s⟩

/-! ### Read after write in RAM -/

/-- Settles O31: both accesses go to the byte of RAM that the address names modulo 0x800. -/
theorem ramReadAfterWrite : Obligations.RamReadAfterWrite := by
  intro a c b s ha hc
  refine ⟨_, memWrite_of_ram ha b s, ?_⟩
  rw [memRead_of_ram hc, State.setRam_ram, Memory.read_write]
  simp only [@eq_comm _ (c.toNat % 0x800)]

/-! ### Which reads have an effect -/

/-- The read rows of the address map are all there are. -/
theorem readRow_cases (a : Addr) :
    a.toNat < 0x2000 ∨ WriteOnlyRegister a ∨ ppuReg a 2 ∨ ppuReg a 4 ∨ ppuReg a 7 ∨ a = 0x4016 ∨
      (0x4000 ≤ a.toNat ∧ a.toNat < 0x8000 ∧ a ≠ 0x4014 ∧ a ≠ 0x4016) ∨ 0x8000 ≤ a.toNat := by
  simp only [WriteOnlyRegister, ppuReg]
  bv_omega

/-- `addr & 0xE007` is the first address of the register that an address of the PPU window mirrors: the mask's two fields
are the window, bits 15 to 13, and the register number, bits 2 to 0. -/
theorem and_E007_of_ppuReg {a : Addr} {r : Nat} (h : ppuReg a r) : a &&& 0xE007 = BitVec.ofNat 16 (0x2000 + r) := by
  obtain ⟨hlo, hhi, hr⟩ := h
  have hwindow : a >>> 13 = 1 := by
    apply BitVec.eq_of_toNat_eq
    rw [BitVec.toNat_ushiftRight, Nat.shiftRight_eq_div_pow]
    show a.toNat / 8192 = 1
    omega
  have hnumber : (a &&& 7).toNat = r := (Nat.and_two_pow_sub_one_eq_mod a.toNat 3).trans hr
  have hdisjoint : 0x2000 &&& (a &&& 7) = 0 := by
    rw [BitVec.and_comm a, ← BitVec.and_assoc]
    exact BitVec.zero_and
  calc a &&& 0xE007
    _ = a &&& BitVec.allOnes 16 <<< 13 ||| a &&& 7 := by rw [← BitVec.and_or_distrib_left]; rfl
    _ = 0x2000 ||| a &&& 7 := by rw [← BitVec.shiftLeft_ushiftRight, hwindow]; rfl
    _ = 0x2000 + (a &&& 7) := (BitVec.add_eq_or_of_and_eq_zero _ _ hdisjoint).symm
    _ = BitVec.ofNat 16 (0x2000 + r) := by rw [← hnumber]; bv_omega

/-- A completed read away from the registers whose reads have an effect leaves the state. -/
theorem memRead_keeps_state {a : Addr} {s t : State} {b : Byte} (hstatus : ¬ ppuReg a 2) (hdata : ¬ ppuReg a 7)
    (hjoy : a ≠ 0x4016 ∨ s.cfg.joypadPresent = false) (h : memRead a s = .ok b t) : t = s := by
  obtain hr | hr | hr | hr | hr | rfl | ⟨hlo, hhi, hdma, hne⟩ | hr := readRow_cases a
  · rw [memRead_of_ram hr] at h; cases h; rfl
  · rw [memRead_of_writeOnlyRegister hr, writeOnlyRead] at h
    split at h
    · cases h
    · cases h; rfl
  · exact absurd hr hstatus
  · rw [memRead_of_oamDataRegister hr] at h; cases h; rfl
  · exact absurd hr hdata
  · rw [memRead_of_noDevice (by decide) (by decide) (by decide) hjoy] at h; cases h; rfl
  · rw [memRead_of_noDevice hlo hhi hdma hjoy] at h; cases h; rfl
  · rw [memRead_of_prg hr] at h; cases h; rfl

/-- Settles O30: the mirrors of the two registers are the addresses that `addr & 0xE007` maps to them. -/
theorem readsAreIdempotentElsewhere : Obligations.ReadsAreIdempotentElsewhere :=
  fun _ _ _ _ hstatus hdata hjoy h =>
    memRead_keeps_state (fun hr => hstatus (and_E007_of_ppuReg hr)) (fun hr => hdata (and_E007_of_ppuReg hr)) hjoy h

/-! ### What a read leaves unchanged -/

/-- `t` is `s` but for what reads can move: registers of the PPU and the joypad's index (R84). -/
structure ReadFrame (s t : State) : Prop where
  ram : t.ram = s.ram
  vram : t.ppu.vram = s.ppu.vram
  palette : t.ppu.palette = s.ppu.palette
  oam : t.ppu.oam = s.ppu.oam
  strobe : t.joy.strobe = s.joy.strobe
  buttons : t.joy.buttons = s.joy.buttons
  sp : t.sp = s.sp
  p : t.p = s.p

theorem ReadFrame.refl (s : State) : ReadFrame s s := ⟨rfl, rfl, rfl, rfl, rfl, rfl, rfl, rfl⟩

theorem ReadFrame.trans {s t u : State} (h : ReadFrame s t) (h' : ReadFrame t u) : ReadFrame s u :=
  ⟨h'.ram.trans h.ram, h'.vram.trans h.vram, h'.palette.trans h.palette, h'.oam.trans h.oam,
    h'.strobe.trans h.strobe, h'.buttons.trans h.buttons, h'.sp.trans h.sp, h'.p.trans h.p⟩

@[simp] theorem joypadReadEffect_strobe (j : Joypad) : (joypadReadEffect j).strobe = j.strobe := by
  unfold joypadReadEffect
  split <;> rfl

theorem readFrame_of_dataRead {s : State} {b : Byte} {u : Ppu} (h : dataRead s.cart s.ppu = .ok (b, u)) :
    ReadFrame s (s.setPpu u) := by
  obtain rfl | ⟨_, rfl⟩ := ppuMemRead_of_dataRead h
  · exact ⟨rfl, rfl, rfl, rfl, rfl, rfl, rfl, rfl⟩
  · exact ⟨rfl, rfl, rfl, rfl, rfl, rfl, rfl, rfl⟩

theorem readFrame_of_memRead {a : Addr} {s t : State} {b : Byte} (h : memRead a s = .ok b t) : ReadFrame s t := by
  obtain rfl | rfl | ⟨u, hu, rfl⟩ | rfl := memRead_ok h
  · exact .refl _
  · exact ⟨rfl, rfl, rfl, rfl, rfl, rfl, rfl, rfl⟩
  · exact readFrame_of_dataRead hu
  · exact ⟨rfl, rfl, rfl, rfl, joypadReadEffect_strobe _, joypadReadEffect_buttons _, rfl, rfl⟩

theorem ReadFrame.memRead (a : Addr) {s t : State} (h : ReadFrame s t) : (memRead a t).keeps (ReadFrame s) := by
  cases hr : Machine.memRead a t with
  | ok b u => exact h.trans (readFrame_of_memRead hr)
  | fatal k u =>
    rw [memRead_fatal hr]
    exact h

theorem ReadFrame.readPointer (lo hi : Addr) {s t : State} (h : ReadFrame s t) :
    (readPointer lo hi t).keeps (ReadFrame s) :=
  Access.keeps_andThen (h.memRead lo) fun _ _ h => Access.keeps_andThen (h.memRead hi) fun _ _ h => h

theorem ReadFrame.effAddr (m : MemMode) {s t : State} (h : ReadFrame s t) : (effAddr m t).keeps (ReadFrame s) := by
  cases m with
  | zp | zpx | zpy | abs | absx | absy => exact h
  | indx | indy | ind => exact Access.keeps_andThen (h.readPointer _ _) fun _ _ h => h

theorem ReadFrame.readOperand (o : Operand) {s t : State} (h : ReadFrame s t) :
    (readOperand o t).keeps (ReadFrame s) := by
  cases o with
  | imm => exact h
  | mem m =>
    exact Access.keeps_andThen (h.effAddr m) fun _ _ h => Access.keeps_andThen (h.memRead _) fun _ _ h => h

/-! ### Instructions that only read -/

/-- Everything a reading instruction can do: apply its function to the byte read, or stop at a fatal read. -/
theorem readOp_next {op : Byte} {f : Byte → State → State} {o : Operand} {s t : State} (h : readOp op f o s = .next t) :
    (∃ b crossed u n, readOperand o s = .ok (b, crossed) u ∧ t = tick n (advance op (f b u))) ∨
      ∃ k u, readOperand o s = .fatal k u ∧ t = u.raise k := by
  unfold readOp at h
  cases hr : readOperand o s with
  | ok v u => rw [hr] at h; cases h; exact .inl ⟨v.1, v.2, u, _, rfl, rfl⟩
  | fatal k u => rw [hr] at h; cases h; exact .inr ⟨k, u, rfl, rfl⟩

theorem workOf_of_readingMnemonic {n : Mnemonic}
    (h : n ∈ ([.lda, .ldx, .ldy, .lax, .adc, .sbc, .sbcU, .and, .ora, .eor, .bit, .cmp, .cpx, .cpy, .anc, .alr, .arr,
      .axs, .las, .nopU] : List Mnemonic)) : ∃ f, workOf n = .reads f := by
  repeat (obtain _ | ⟨_, h⟩ := h; · exact ⟨_, rfl⟩)
  cases h

theorem getFlag_znFlags_of_ne {g : Flag} (hz : g ≠ .z) (hn : g ≠ .n) (p v : Byte) :
    getFlag (znFlags p v) g = getFlag p g := by
  rw [getFlag_znFlags, if_neg hn, if_neg hz]

/-- I, D and the Break bits are not among the flags that arithmetic writes. -/
theorem ne_arithmeticFlag {g : Flag} (hg : g ∈ ([.i, .d, .b1, .b2] : List Flag)) :
    g ≠ .c ∧ g ≠ .z ∧ g ≠ .v ∧ g ≠ .n := by
  repeat (obtain _ | ⟨_, hg⟩ := hg; · decide)
  cases hg

section Reads

variable {n : Mnemonic} {f : Byte → State → State} (hf : workOf n = .reads f) (b : Byte) (s : State)

include hf

/-- The function of a reading instruction changes CPU registers alone. -/
theorem reads_memories : (f b s).ram = s.ram ∧ (f b s).ppu = s.ppu ∧ (f b s).joy = s.joy := by
  cases n <;> cases hf <;> exact ⟨rfl, rfl, rfl⟩

/-- LAS alone among the reading instructions writes S (R324). -/
theorem reads_sp (hlas : n ≠ .las) : (f b s).sp = s.sp := by
  cases n <;> cases hf
  case las => exact absurd rfl hlas
  all_goals rfl

theorem reads_flag {g : Flag} (hg : g ∈ ([.i, .d, .b1, .b2] : List Flag)) : getFlag (f b s).p g = getFlag s.p g := by
  obtain ⟨hc, hz, hv, hn⟩ := ne_arithmeticFlag hg
  have hzn := getFlag_znFlags_of_ne hz hn
  cases n <;> cases hf
  case lda | ldx | ldy | lax | and | ora | eor | las => exact hzn _ _
  case adc | sbc | sbcU => simp [subtractWithCarry, addWithCarry, hzn, hc, hv]
  case cmp | cpx | cpy => simp [compareWith, hzn, hc]
  case bit => simp [bitTest, hz, hn, hv]
  case anc => simp [andCopyingCarry, andA, hzn, hc]
  case alr => simp [andShiftRight, hzn, hc]
  case arr => simp [andRotateRight, hzn, hc, hv]
  case axs => simp [subtractFromAX, hzn, hc]
  case nopU => rfl

end Reads

/-- Settles O51: the read moves only what reads move, and the function of the byte read changes CPU registers alone. -/
theorem readingInstructionsStoreNothing : Obligations.ReadingInstructionsStoreNothing := by
  intro i s t hi h
  obtain ⟨f, hf⟩ := workOf_of_readingMnemonic hi
  rw [exec_eq, hf] at h
  have hread := (ReadFrame.refl s).readOperand i.mode.operand
  obtain ⟨b, crossed, u, n, hr, rfl⟩ | ⟨k, u, hr, rfl⟩ := readOp_next h
  · rw [hr] at hread
    obtain ⟨hram, hvram, hpalette, hoam, hstrobe, hbuttons, hsp, hp⟩ := hread
    obtain ⟨hfram, hfppu, hfjoy⟩ := reads_memories hf b u
    simp only [tick_ram, tick_ppu, tick_joy, tick_sp, tick_p, advance_ram, advance_ppu, advance_joy, advance_sp,
      advance_p, advanceDots_vram, advanceDots_palette, advanceDots_oam, hfram, hfppu, hfjoy, hram, hvram, hpalette,
      hoam, hstrobe, hbuttons, implies_true, true_and, and_true]
    exact ⟨fun hlas => (reads_sp hf b u hlas).trans hsp, fun g hg => by rw [reads_flag hf b u hg, hp]⟩
  · rw [hr] at hread
    obtain ⟨hram, hvram, hpalette, hoam, hstrobe, hbuttons, hsp, hp⟩ := hread
    simp only [State.raise_ram, State.raise_ppu, State.raise_joy, State.raise_sp, State.raise_p, hram, hvram, hpalette,
      hoam, hstrobe, hbuttons, hsp, hp, implies_true, and_true]

/-! ### Stores and read-modify-writes aimed at ROM -/

/-- The mnemonics of the stores (R163 to R165, R312). -/
abbrev storeMnemonics : List Mnemonic := [.sta, .stx, .sty, .sax]

/-- The mnemonics of the read-modify-writes (R201, R202, R230, R313 to R318). -/
abbrev modifyMnemonics : List Mnemonic := [.inc, .dec, .asl, .lsr, .rol, .ror, .dcp, .isb, .slo, .rla, .sre, .rra]

theorem workOf_of_storeMnemonic {n : Mnemonic} (h : n ∈ storeMnemonics) : ∃ v, workOf n = .stores v := by
  repeat (obtain _ | ⟨_, h⟩ := h; · exact ⟨_, rfl⟩)
  cases h

theorem workOf_of_modifyMnemonic {n : Mnemonic} (h : n ∈ modifyMnemonics) : ∃ f g, workOf n = .modifies f g := by
  repeat (obtain _ | ⟨_, h⟩ := h; · exact ⟨_, _, rfl⟩)
  cases h

/-- Only JMP has the indirect format (R132). -/
theorem mnemonic_of_mode_ind {i : Instr} {w : Addr} (h : i.mode = .mem (.ind w)) : i.mnemonic = .jmp := by
  cases i <;> cases h
  simp only [Instr.mnemonic, Instr.opcode]
  rfl

/-- Every format but JMP's forms its address from registers and page 0, whose reads have no effect (R64). -/
theorem effAddr_keeps_state {m : MemMode} {s t : State} {ea : Addr × Bool} (hm : ∀ w, m ≠ .ind w)
    (h : effAddr m s = .ok ea t) : t = s := by
  cases m with
  | zp | zpx | zpy | abs | absx | absy => cases h; rfl
  | indx | indy =>
    rw [effAddr, readPointer_zeroPage] at h
    cases h
    rfl
  | ind w => exact absurd rfl (hm w)

theorem stores_byte {n : Mnemonic} {v : State → Byte} (hv : workOf n = .stores v) (s : State) :
    v s = registerByte n s := by
  cases n <;> cases hv <;> rfl

theorem shiftLeft_or_carry (b : Byte) (c : Bool) :
    b <<< 1 ||| (if c then 0x01 else 0) = BitVec.ofNat 8 (2 * b.toNat + c.toNat) := by
  revert b c
  decide

theorem shiftRight_or_carry (b : Byte) (c : Bool) :
    b >>> 1 ||| (if c then 0x80 else 0) = BitVec.ofNat 8 (b.toNat / 2 + 128 * c.toNat) := by
  revert b c
  decide

theorem modifies_byte {n : Mnemonic} {f : Byte → State → Byte × State} {g : Byte → State → State}
    (hf : workOf n = .modifies f g) (b : Byte) (s : State) : (f b s).1 = modifiedByte n b s := by
  cases n <;> cases hf
  case inc | dec | dcp | isb => rfl
  case asl | slo => exact (BitVec.or_zero).symm.trans (shiftLeft_or_carry b false)
  case lsr | sre => exact (BitVec.or_zero).symm.trans (shiftRight_or_carry b false)
  case rol | rla => exact shiftLeft_or_carry b (s.flag .c)
  case ror | rra => exact shiftRight_or_carry b (s.flag .c)

/-- What a read-modify-write does before its write is at most to put C (R449). -/
theorem modifies_state {n : Mnemonic} {f : Byte → State → Byte × State} {g : Byte → State → State}
    (hf : workOf n = .modifies f g) (b : Byte) (s : State) :
    ∃ p, (f b s).2 = s.setP p ∧ ∀ k, k ≠ .c → getFlag p k = getFlag s.p k := by
  cases n <;> cases hf
  case inc | dec | dcp | isb => exact ⟨s.p, rfl, fun _ _ => rfl⟩
  all_goals exact ⟨_, rfl, fun k hk => (getFlag_putFlag s.p .c k _).trans (if_neg hk)⟩

theorem storeOp_of_rom {m : MemMode} {s : State} {ea : Addr} {crossed : Bool} (hea : effAddr m s = .ok (ea, crossed) s)
    (hrom : 0x8000 ≤ ea.toNat) (op : Byte) (v : State → Byte) :
    storeOp op v m s = .next (s.raise (.romWrite ea (v s))) := by
  simp only [storeOp, hea, Access.andThen_ok, memWrite_of_prg hrom, Access.andThen_fatal, finish]

theorem rmwOp_of_rom {m : MemMode} {s : State} {ea : Addr} {crossed : Bool} (hea : effAddr m s = .ok (ea, crossed) s)
    (hrom : 0x8000 ≤ ea.toNat) (op : Byte) (f : Byte → State → Byte × State) (g : Byte → State → State) :
    rmwOp op f g m s =
      .next ((f (prgByte s.cart ea) s).2.raise (.romWrite ea (f (prgByte s.cart ea) s).1)) := by
  simp only [rmwOp, hea, Access.andThen_ok, memRead_of_prg hrom, memWrite_of_prg hrom, Access.andThen_fatal, finish]
  rfl

/-- Settles O55: the address is formed without effect, the read of ROM has none, and the write is fatal. -/
theorem writesToRomAreFatal : Obligations.WritesToRomAreFatal := by
  intro i m s s1 ea crossed hi hmode hea hrom
  have hind : ∀ w, m ≠ .ind w := by
    rintro w rfl
    rw [mnemonic_of_mode_ind hmode] at hi
    exact absurd hi (by decide)
  obtain rfl := effAddr_keeps_state hind hea
  rw [exec_eq, hmode]
  by_cases hstore : i.mnemonic ∈ storeMnemonics
  · obtain ⟨v, hv⟩ := workOf_of_storeMnemonic hstore
    refine ⟨v s1, s1.p, ?_, fun _ _ => rfl, ?_⟩
    · rw [hv]
      exact storeOp_of_rom hea hrom _ v
    · rw [if_pos hstore, stores_byte hv]
  · have hwrites : i.mnemonic ∈ storeMnemonics ++ modifyMnemonics := hi
    have hmodify := (List.mem_append.mp hwrites).resolve_left hstore
    obtain ⟨f, g, hf⟩ := workOf_of_modifyMnemonic hmodify
    obtain ⟨p, hstate, hp⟩ := modifies_state hf (prgByte s1.cart ea) s1
    refine ⟨(f (prgByte s1.cart ea) s1).1, p, ?_, hp, ?_⟩
    · rw [hf]
      refine (rmwOp_of_rom hea hrom _ f g).trans ?_
      rw [hstate]
      rfl
    · rw [if_neg hstore, modifies_byte hf]
      rfl

end Sys2Proof.Machine
end

section
/-!
PROOFS. The encoding and the effective addresses of 30_encoding.md. Two facts carry the encoding, one per direction: every
opcode byte means an instruction that encodes to it (`instrOf_spec`, by the 256 bytes), and every well-formed instruction
is what its bytes mean (`instrOf_opcode`, by the 232 constructors).
-/

namespace Sys2Proof

open Machine

/-! ### The fields of an encoding (R121) -/

/-- The mode of format `k` whose operand bytes in the list of bytes are `b1` and, where it has two, `b2`. -/
def ModeName.withBytes (k : ModeName) (b1 b2 : Byte) : Mode :=
  match k with
  | .imp => .imp
  | .acc => .acc
  | .imm => .imm b1
  | .zp => .mem (.zp b1)
  | .zpx => .mem (.zpx b1)
  | .zpy => .mem (.zpy b1)
  | .abs => .mem (.abs (hilo b2 b1))
  | .absx => .mem (.absx (hilo b2 b1))
  | .absy => .mem (.absy (hilo b2 b1))
  | .indx => .mem (.indx b1)
  | .indy => .mem (.indy b1)
  | .ind => .mem (.ind (hilo b2 b1))
  | .rel => .rel b1

@[simp] theorem ModeName.name_withBytes (k : ModeName) (b1 b2 : Byte) : (k.withBytes b1 b2).name = k := by
  cases k <;> rfl

/-- The operand bytes of the mode are those of `b1`, `b2` that the length of the format asks for. -/
theorem ModeName.bytes_withBytes (k : ModeName) (b1 b2 : Byte) :
    (k.withBytes b1 b2).bytes = [b1, b2].take (k.length - 1) := by
  cases k
  case abs | absx | absy | ind =>
    simp only [withBytes, Mode.bytes, MemMode.bytes, loByte_hilo, hiByte_hilo]
    rfl
  all_goals rfl

/-- A mode is its format with its own operand bytes. -/
theorem Mode.withBytes_name_bytes (m : Mode) : m.name.withBytes (m.bytes.getD 0 0) (m.bytes.getD 1 0) = m := by
  cases m with
  | imp | acc | imm | rel => rfl
  | mem m =>
    cases m with
    | zp | zpx | zpy | indx | indy => rfl
    | abs | absx | absy | ind =>
      simp only [Mode.name, ModeName.withBytes, Mode.bytes, MemMode.bytes, List.getD_cons_zero, List.getD_cons_succ,
        hilo_hiByte_loByte]

/-- The operand bytes and the opcode byte make up the length of the format (R137). -/
theorem Mode.length_bytes (m : Mode) : m.bytes.length + 1 = m.name.length := by
  cases m with
  | imp | acc | imm | rel => rfl
  | mem m => cases m <;> rfl

/-! ### The opcode map and its inverse (R131 to R135) -/

/-- What the opcode map gives for a byte is well-formed, has that opcode byte, and is in the format of the byte's record
with the operand bytes in their fields. The map is R134's: 16 rows by the high nibble `h`, 16 bytes each by the low one. -/
theorem instrOf_spec (op b1 b2 : Byte) :
    (instrOf op b1 b2).wf = true ∧ (instrOf op b1 b2).opcode = op ∧
      (instrOf op b1 b2).mode = (rowOf op).mode.withBytes b1 b2 := by
  obtain ⟨h, l, hh, hl, rfl⟩ : ∃ h l, h < 16 ∧ l < 16 ∧ BitVec.ofNat 8 (16 * h + l) = op :=
    ⟨op.toNat / 16, op.toNat % 16, by omega, by omega, by rw [Nat.div_add_mod, BitVec.ofNat_toNat]; rfl⟩
  iterate 16
    obtain _ | h := h
    · iterate 16
        obtain _ | l := l
        · exact ⟨rfl, rfl, rfl⟩
      omega
  omega

theorem instrOf_of_illegal {op : Byte} (h : op ∈ illegalOpcodes) (b1 b2 : Byte) : instrOf op b1 b2 = .ill op := by
  unfold illegalOpcodes at h
  repeat (obtain _ | ⟨_, h⟩ := h; · rfl)
  cases h

/-- An instruction is what its opcode byte means with its operand bytes. -/
theorem instrOf_opcode {i : Instr} {b1 b2 : Byte} (hwf : i.wf = true) (hmode : i.mode = i.mode.name.withBytes b1 b2) :
    instrOf i.opcode b1 b2 = i := by
  cases i
  case ill op => exact instrOf_of_illegal (List.contains_iff_mem.mp hwf) b1 b2
  all_goals
    cases hmode
    simp only [Instr.opcode]
    rfl

/-- The record of an instruction's opcode byte names the format that the encoder gives it. -/
theorem rowOf_opcode_mode {i : Instr} (hwf : i.wf = true) : (rowOf i.opcode).mode = i.mode.name := by
  have hself := instrOf_opcode hwf i.mode.withBytes_name_bytes.symm
  obtain ⟨_, _, hmode⟩ := instrOf_spec i.opcode (i.mode.bytes.getD 0 0) (i.mode.bytes.getD 1 0)
  rw [hself] at hmode
  exact ((congrArg Mode.name hmode).trans (ModeName.name_withBytes ..)).symm

theorem Instr.length_eq {i : Instr} (hwf : i.wf = true) : i.length = i.mode.name.length :=
  congrArg ModeName.length (rowOf_opcode_mode hwf)

theorem length_encode {i : Instr} (hwf : i.wf = true) : (encode i).length = i.length :=
  i.mode.length_bytes.trans (Instr.length_eq hwf).symm

/-! ### Reading from a list of bytes (R120) -/

/-- The operand bytes `bs` are as many as the opcode byte asks for (R120, R137). -/
abbrev OperandBytes (op : Byte) (bs : List Byte) : Prop := bs.length + 1 = lengthOf op

/-- No format has more than two operand bytes. -/
theorem OperandBytes.cases {op : Byte} {bs : List Byte} (h : OperandBytes op bs) :
    bs = [] ∨ (∃ b1, bs = [b1]) ∨ ∃ b1 b2, bs = [b1, b2] := by
  have hle : lengthOf op ≤ 3 := by
    unfold lengthOf
    cases (rowOf op).mode <;> decide
  match bs, h with
  | [], _ => exact .inl rfl
  | [b1], _ => exact .inr (.inl ⟨b1, rfl⟩)
  | [b1, b2], _ => exact .inr (.inr ⟨b1, b2, rfl⟩)
  | _ :: _ :: _ :: _, h =>
    simp only [OperandBytes, List.length_cons] at h
    omega

/-- The instruction that an opcode byte and its operand bytes mean; a missing byte is not looked at. -/
def instrOfBytes (op : Byte) (bs : List Byte) : Instr := instrOf op (bs.getD 0 0) (bs.getD 1 0)

theorem decode_of_operandBytes {op : Byte} {bs : List Byte} (h : OperandBytes op bs) (rest : List Byte) :
    decode (op :: bs ++ rest) = .ok (instrOfBytes op bs, rest) := by
  obtain rfl | ⟨b1, rfl⟩ | ⟨b1, b2, rfl⟩ := h.cases
  all_goals
    simp only [decode, List.cons_append, List.nil_append, ← h]
    rfl

/-- Everything a completed decode can have read: an opcode byte with its operand bytes. -/
theorem decode_ok {bytes rest : List Byte} {i : Instr} (h : decode bytes = .ok (i, rest)) :
    ∃ op bs, OperandBytes op bs ∧ bytes = op :: bs ++ rest ∧ i = instrOfBytes op bs := by
  cases bytes with
  | nil => cases h
  | cons op tail =>
    simp only [decode.eq_def] at h
    split at h
    · next hlen => cases h; exact ⟨op, [], hlen.symm, rfl, rfl⟩
    · next b1 _ hlen => cases h; exact ⟨op, [b1], hlen.symm, rfl, rfl⟩
    · next b1 b2 _ hlen => cases h; exact ⟨op, [b1, b2], hlen.symm, rfl, rfl⟩
    · cases h

/-- A well-formed instruction is what its encoding means. -/
theorem instrOfBytes_opcode_bytes {i : Instr} (hwf : i.wf = true) : instrOfBytes i.opcode i.mode.bytes = i :=
  instrOf_opcode hwf i.mode.withBytes_name_bytes.symm

/-- What bytes mean encodes to them: no operand bit is dropped (R121). -/
theorem encode_instrOfBytes {op : Byte} {bs : List Byte} (h : OperandBytes op bs) :
    encode (instrOfBytes op bs) = op :: bs := by
  obtain ⟨_, hop, hmode⟩ := instrOf_spec op (bs.getD 0 0) (bs.getD 1 0)
  have hlen : (rowOf op).mode.length - 1 = bs.length := (Nat.eq_sub_of_add_eq h).symm
  rw [encode, instrOfBytes, hop, hmode, ModeName.bytes_withBytes, hlen]
  obtain rfl | ⟨b1, rfl⟩ | ⟨b1, b2, rfl⟩ := h.cases
  all_goals rfl

/-! ### The obligations -/

/-- Settles O2: the encoding is the opcode byte with as many operand bytes as it asks for, and `decode` gives what these
mean. -/
theorem decodeOfEncode : Obligations.DecodeOfEncode := by
  intro i rest hwf
  have hoperands : OperandBytes i.opcode i.mode.bytes := length_encode hwf
  calc decode (encode i ++ rest)
    _ = .ok (instrOfBytes i.opcode i.mode.bytes, rest) := decode_of_operandBytes hoperands rest
    _ = .ok (i, rest) := by rw [instrOfBytes_opcode_bytes hwf]

/-- Settles O3: what `decode` gives is the meaning of the bytes it read, and encodes to them. -/
theorem encodeOfDecode : Obligations.EncodeOfDecode := by
  intro bytes i rest h
  obtain ⟨op, bs, hoperands, rfl, rfl⟩ := decode_ok h
  obtain ⟨hwf, _, _⟩ := instrOf_spec op (bs.getD 0 0) (bs.getD 1 0)
  exact ⟨hwf, congrArg (· ++ rest) (encode_instrOfBytes hoperands)⟩

/-- A list too short for the length its opcode byte fixes does not decode. -/
theorem decode_take_encode_ne_ok {i : Instr} {n : Nat} (hn : n < i.length) (j : Instr × List Byte) :
    decode ((encode i).take n) ≠ .ok j := by
  intro h
  obtain ⟨op, bs, hoperands, hbytes, -⟩ := decode_ok h
  obtain rfl : op = i.opcode := by
    cases n with
    | zero => cases hbytes
    | succ n => exact (List.cons.inj hbytes).1.symm
  have hlen : i.length ≤ n := by
    calc i.length
      _ = bs.length + 1 := Eq.symm hoperands
      _ ≤ (i.opcode :: bs ++ j.2).length := by
        simp only [List.length_append, List.length_cons]
        omega
      _ = ((encode i).take n).length := by rw [hbytes]
      _ ≤ n := List.length_take_le n _
  exact absurd hlen (Nat.not_le.mpr hn)

/-- Settles O4: the length of an instruction is that of its mode's format, and `decode` reads that many bytes. -/
theorem lengthFollowsTheMode : Obligations.LengthFollowsTheMode := by
  intro i hwf
  refine ⟨length_encode hwf, ?_, fun n hn j => decode_take_encode_ne_ok hn j⟩
  rw [Instr.length_eq hwf]
  cases i.mode with
  | imp | acc | imm | rel => rfl
  | mem m => cases m <;> rfl

/-- Settles O5: a byte that decodes to ILL is its opcode byte, and a well-formed ILL carries one of the 25. -/
theorem exactlyTwentyFiveBytesAreIllegal : Obligations.ExactlyTwentyFiveBytesAreIllegal := by
  have hbyte : ∀ op b1 b2 o, instrOf op b1 b2 = .ill o → o = op := by
    intro op b1 b2 o h
    obtain ⟨_, hop, _⟩ := instrOf_spec op b1 b2
    rw [h] at hop
    exact hop
  refine ⟨fun op b1 b2 => ⟨?_, fun h => ⟨op, instrOf_of_illegal h b1 b2⟩⟩, hbyte, by decide, rfl⟩
  rintro ⟨o, h⟩
  obtain ⟨hwf, _, _⟩ := instrOf_spec op b1 b2
  rw [h, hbyte op b1 b2 o h] at hwf
  exact List.contains_iff_mem.mp hwf

/-- Settles O1: the fifteen sequences, each decoded. -/
theorem specWordsDecode : Obligations.SpecWordsDecode :=
  ⟨rfl, rfl, rfl, rfl, rfl, rfl, rfl, rfl, rfl, rfl, rfl, rfl, rfl, rfl, rfl⟩

end Sys2Proof

namespace Sys2Proof.Machine

open Sys2Proof.Claims

/-! ### Effective addresses (R124 to R126) -/

theorem pageDiffers_eq (a c : Addr) : pageDiffers a c = decide (hiByte a ≠ hiByte c) := (decide_not ..).symm

theorem indexed_eq (base : Addr) (index : Byte) :
    indexed base index =
      (base + index.setWidth 16, decide (hiByte (base + index.setWidth 16) ≠ hiByte base)) :=
  congrArg (Prod.mk _) (pageDiffers_eq _ _)

/-- The pointer of `(zp,X)` is in page 0, and so is its second byte (R126). -/
theorem effAddr_indx (b : Byte) (s : State) :
    effAddr (.indx b) s =
      .ok (hilo (s.ram.read (b + s.x + 1).toNat) (s.ram.read (b + s.x).toNat), false) s := by
  rw [effAddr, readPointer_zeroPage, Access.andThen_ok]

/-- The pointer of `(zp),Y` is in page 0, and so is its second byte (R126). -/
theorem effAddr_indy (b : Byte) (s : State) :
    effAddr (.indy b) s = .ok (indexed (hilo (s.ram.read (b + 1).toNat) (s.ram.read b.toNat)) s.y) s := by
  rw [effAddr, readPointer_zeroPage, Access.andThen_ok]

/-- A read where there is memory gives the byte there, with no side effect (R64, R74). -/
theorem memRead_of_storedByte {s : State} {a : Addr} {b : Byte} (h : storedByte s a = some b) :
    memRead a s = .ok b s := by
  unfold storedByte at h
  split at h
  · next hram => cases h; exact memRead_of_ram hram s
  · split at h
    · cases h
    · next hprg => cases h; exact memRead_of_prg (Nat.not_lt.mp hprg) s

theorem readOperand_of_storedByte {m : MemMode} {s : State} {ea : Addr} {crossed : Bool} {b : Byte}
    (hea : effAddr m s = .ok (ea, crossed) s) (hb : storedByte s ea = some b) :
    readOperand (.mem m) s = .ok (b, crossed) s := by
  simp only [readOperand, hea, Access.andThen_ok, memRead_of_storedByte hb]

/-- Settles O21: the indexed modes by `indexed_eq`, the pointers by reads of page 0, the operand by a read of memory. -/
theorem effectiveAddresses : Obligations.EffectiveAddresses := by
  intro b w s
  refine ⟨rfl, rfl, rfl, rfl, ?_, ?_, effAddr_indx b s, ?_, rfl, fun m ea crossed => readOperand_of_storedByte⟩
  · rw [effAddr, indexed_eq]
  · rw [effAddr, indexed_eq]
  · rw [effAddr_indy, indexed_eq]

end Sys2Proof.Machine
end

section
/-!
PROOFS. The loads, stores and transfers of 40_load_store_transfer.md. The shapes of Machine/Operands.lean meet the shapes of
the statements once for each of reads, stores and registers (`reads_of_readOp`, `stores_of_storeOp`,
`registers_of_registerOp`), with length, cycles and page-cross mark read from the opcode's record; a row of a statement is
then an evaluation of that record.
-/

namespace Sys2Proof.Machine

open Sys2Proof.Claims

/-! ### `Z` and `N` (R25) -/

theorem znFlags_eq_zn (p v : Byte) : znFlags p v = zn p v := by
  have hz : (v == 0) = decide (v = 0) := rfl
  have hn : v.getLsbD 7 = decide (128 ≤ v.toNat) := (BitVec.msb_eq_getLsbD_last v).symm.trans (BitVec.msb_eq_decide v)
  rw [znFlags, zn, hz, hn]

theorem loadA_eq (m : Byte) (s : State) : loadA m s = { s with a := m, p := zn s.p m } :=
  congrArg (State.setP (s.setA m)) (znFlags_eq_zn s.p m)

theorem loadX_eq (m : Byte) (s : State) : loadX m s = { s with x := m, p := zn s.p m } :=
  congrArg (State.setP (s.setX m)) (znFlags_eq_zn s.p m)

theorem loadY_eq (m : Byte) (s : State) : loadY m s = { s with y := m, p := zn s.p m } :=
  congrArg (State.setP (s.setY m)) (znFlags_eq_zn s.p m)

theorem loadAX_eq (m : Byte) (s : State) : loadAX m s = { s with a := m, x := m, p := zn s.p m } :=
  congrArg (State.setP ((s.setA m).setX m)) (znFlags_eq_zn s.p m)

/-! ### Accesses and PC -/

/-- No access to the bus moves PC. -/
theorem accessStable_pc (w : Addr) : AccessStable (·.pc = w) where
  ram _ _ _ h := h
  statusRead h := h
  dataRead _ h := h
  control _ h := h
  mask _ h := h
  oamAddr _ h := h
  oamData _ h := h
  scroll _ h := h
  address _ h := h
  dataWrite _ h := h
  joyRead h := h
  joyWrite _ h := h

theorem readOperand_pc {o : Operand} {s t : State} {v : Byte × Bool} (h : readOperand o s = .ok v t) : t.pc = s.pc := by
  have hpc := (accessStable_pc s.pc).readOperand o rfl
  rwa [h] at hpc

theorem memWrite_pc {a : Addr} {b : Byte} {s t : State} {n : Nat} (h : memWrite a b s = .ok n t) : t.pc = s.pc := by
  have hpc := (accessStable_pc s.pc).memWrite a b rfl
  rwa [h] at hpc

/-! ### The shapes of the statements -/

/-- An instruction ends as `after` says when its work has left PC at the opcode byte (R23). -/
theorem tick_advance_eq_after {pc0 : Addr} {s : State} (hpc : s.pc = pc0) (op : Byte) (n : Nat) :
    tick n (advance op s) = after (lengthOf op) n pc0 s := by
  rw [← hpc]
  rfl

/-- An instruction that runs the model's reading shape has the statements' reading shape, with the length, the cycles and the
page-cross mark of its opcode's record, for any statement `g` of what it does with the byte. -/
theorem reads_of_readOp {i : Instr} (op : Byte) {f g : Byte → State → State} {o : Operand}
    (hexec : ∀ s, exec i s = readOp op f o s) (hf : ∀ m s, f m s = g m s) (hpc : ∀ m s, (g m s).pc = s.pc) :
    Reads i o (lengthOf op) (rowOf op).cycles (rowOf op).crossExtra g := by
  intro s
  rw [hexec, readOp]
  constructor
  · intro b crossed s1 hread
    rw [hread, Access.andThen_ok, hf]
    exact congrArg _ (tick_advance_eq_after ((hpc b s1).trans (readOperand_pc hread)) _ _)
  · intro k s1 hread
    rw [hread]
    rfl

/-- The same of a store. It writes the byte of the state before it: forming the address has no effect, the indirect format
aside, which no store has. -/
theorem stores_of_storeOp {i : Instr} (op : Byte) {v : State → Byte} {m : MemMode}
    (hexec : ∀ s, exec i s = storeOp op v m s) (hm : ∀ w, m ≠ .ind w) :
    Stores i m (lengthOf op) (rowOf op).cycles v := by
  intro s ea crossed s1 hea
  obtain rfl := effAddr_keeps_state hm hea
  rw [hexec, storeOp, hea, Access.andThen_ok]
  constructor
  · intro charged s2 hwrite
    rw [hwrite, Access.andThen_ok]
    exact congrArg _ (tick_advance_eq_after (memWrite_pc hwrite) _ _)
  · intro k s2 hwrite
    rw [hwrite]
    rfl

/-- The same of an instruction that changes registers alone. -/
theorem registers_of_registerOp {i : Instr} (op : Byte) {f g : State → State}
    (hexec : ∀ s, exec i s = registerOp op f s) (hf : ∀ s, f s = g s) (hpc : ∀ s, (g s).pc = s.pc) :
    Registers i (lengthOf op) (rowOf op).cycles g := by
  intro s
  rw [hexec, registerOp, hf]
  exact congrArg _ (tick_advance_eq_after (hpc s) _ _)

/-! ### The obligations on loads, stores and transfers -/

/-- Settles O36: one equation for each of the four load functions, and the records of the 24 opcodes. -/
theorem loadsCompleteWithTheirByte : Obligations.LoadsCompleteWithTheirByte := by
  intro b w
  have lda {i : Instr} {o : Operand} (op : Byte) (h : ∀ s, exec i s = readOp op loadA o s) :=
    reads_of_readOp op h loadA_eq fun _ _ => rfl
  have ldx {i : Instr} {o : Operand} (op : Byte) (h : ∀ s, exec i s = readOp op loadX o s) :=
    reads_of_readOp op h loadX_eq fun _ _ => rfl
  have ldy {i : Instr} {o : Operand} (op : Byte) (h : ∀ s, exec i s = readOp op loadY o s) :=
    reads_of_readOp op h loadY_eq fun _ _ => rfl
  have lax {i : Instr} {o : Operand} (op : Byte) (h : ∀ s, exec i s = readOp op loadAX o s) :=
    reads_of_readOp op h loadAX_eq fun _ _ => rfl
  exact ⟨lda 0xA9 fun _ => rfl, lda 0xA5 fun _ => rfl, lda 0xB5 fun _ => rfl, lda 0xAD fun _ => rfl,
    lda 0xBD fun _ => rfl, lda 0xB9 fun _ => rfl, lda 0xA1 fun _ => rfl, lda 0xB1 fun _ => rfl,
    ldx 0xA2 fun _ => rfl, ldx 0xA6 fun _ => rfl, ldx 0xB6 fun _ => rfl, ldx 0xAE fun _ => rfl,
    ldx 0xBE fun _ => rfl,
    ldy 0xA0 fun _ => rfl, ldy 0xA4 fun _ => rfl, ldy 0xB4 fun _ => rfl, ldy 0xAC fun _ => rfl,
    ldy 0xBC fun _ => rfl,
    lax 0xA7 fun _ => rfl, lax 0xB7 fun _ => rfl, lax 0xAF fun _ => rfl, lax 0xBF fun _ => rfl,
    lax 0xA3 fun _ => rfl, lax 0xB3 fun _ => rfl⟩

/-- Settles O37: the shape of a store, and the records of the 17 opcodes. -/
theorem storesCompleteWithTheirRegister : Obligations.StoresCompleteWithTheirRegister := by
  intro b w
  exact ⟨stores_of_storeOp 0x85 (fun _ => rfl) nofun, stores_of_storeOp 0x95 (fun _ => rfl) nofun,
    stores_of_storeOp 0x8D (fun _ => rfl) nofun, stores_of_storeOp 0x9D (fun _ => rfl) nofun,
    stores_of_storeOp 0x99 (fun _ => rfl) nofun, stores_of_storeOp 0x81 (fun _ => rfl) nofun,
    stores_of_storeOp 0x91 (fun _ => rfl) nofun,
    stores_of_storeOp 0x86 (fun _ => rfl) nofun, stores_of_storeOp 0x96 (fun _ => rfl) nofun,
    stores_of_storeOp 0x8E (fun _ => rfl) nofun,
    stores_of_storeOp 0x84 (fun _ => rfl) nofun, stores_of_storeOp 0x94 (fun _ => rfl) nofun,
    stores_of_storeOp 0x8C (fun _ => rfl) nofun,
    stores_of_storeOp 0x87 (fun _ => rfl) nofun, stores_of_storeOp 0x97 (fun _ => rfl) nofun,
    stores_of_storeOp 0x8F (fun _ => rfl) nofun, stores_of_storeOp 0x83 (fun _ => rfl) nofun⟩

/-- Settles O38: the loads' equations, each with the register that is copied; TXS writes S alone. -/
theorem transfersCopyTheirRegister : Obligations.TransfersCopyTheirRegister :=
  ⟨registers_of_registerOp 0xAA (fun _ => rfl) (fun s => loadX_eq s.a s) fun _ => rfl,
    registers_of_registerOp 0xA8 (fun _ => rfl) (fun s => loadY_eq s.a s) fun _ => rfl,
    registers_of_registerOp 0x8A (fun _ => rfl) (fun s => loadA_eq s.x s) fun _ => rfl,
    registers_of_registerOp 0x98 (fun _ => rfl) (fun s => loadA_eq s.y s) fun _ => rfl,
    registers_of_registerOp 0xBA (fun _ => rfl) (fun s => loadX_eq s.sp s) fun _ => rfl,
    registers_of_registerOp 0x9A (fun _ => rfl) (fun _ => rfl) fun _ => rfl⟩

/-! ### Stores to RAM -/

/-- Settles O53: the write goes to RAM and always completes, and a read after it gives the byte written there and the old
bytes elsewhere. -/
theorem storesToRamWriteOneByte : Obligations.StoresToRamWriteOneByte := by
  intro i m s s1 ea crossed hi hmode hea hram
  obtain ⟨v, hv⟩ := workOf_of_storeMnemonic hi
  have hind : ∀ w, m ≠ .ind w := by
    rintro w rfl
    rw [mnemonic_of_mode_ind hmode] at hi
    exact absurd hi (by decide)
  have hexec : ∀ s, exec i s = storeOp i.opcode v m s := by
    intro s
    rw [exec_eq, hv, hmode]
    rfl
  obtain ⟨hcompletes, -⟩ := stores_of_storeOp i.opcode hexec hind s ea crossed s1 hea
  obtain rfl := effAddr_keeps_state hind hea
  refine ⟨_, hcompletes _ _ (memWrite_of_ram hram (v s1) s1), ?_, fun n hn => ?_, ?_⟩
  · rw [← stores_byte hv]
    exact Memory.read_write_same _ _ _
  · exact Memory.read_write_other _ _ hn
  · exact ⟨advanceDots_vram _ _, advanceDots_palette _ _, advanceDots_oam _ _, rfl, rfl, rfl, rfl, rfl, rfl, rfl⟩

/-! ### Instructions without an access to memory -/

/-- The outcome is a next state with the memories, the joypad, the run state and the PPU of `s`, but for what dots
change of the PPU (R392). -/
def TouchesNoMemory (s : State) (r : Host.Outcome State Fault Refusal) : Prop :=
  ∃ t, r = .next t ∧ t.ram = s.ram ∧ t.joy = s.joy ∧ t.run = s.run ∧
    t.ppu = { s.ppu with
      scanline := t.ppu.scanline, dot := t.ppu.dot, status := t.ppu.status, pendingNmi := t.ppu.pendingNmi }

/-- `t` is `s` but for A, X, Y, S and P. -/
def OnlyRegisters (s t : State) : Prop := t = { s with a := t.a, x := t.x, y := t.y, sp := t.sp, p := t.p }

theorem onlyRegisters_of_registers {n : Mnemonic} {f : State → State} (hf : workOf n = .registers f) (s : State) :
    OnlyRegisters s (f s) := by
  cases n <;> cases hf <;> rfl

theorem onlyRegisters_onAccumulator {n : Mnemonic} {f : Byte → State → Byte × State} {g : Byte → State → State}
    (hf : workOf n = .modifies f g) (s : State) : OnlyRegisters s (onAccumulator f s) := by
  obtain ⟨p, hp, -⟩ := modifies_state hf s.a s
  rw [onAccumulator, hp]
  rfl

theorem touchesNoMemory_tick {s t : State} (h : OnlyRegisters s t) (n : Nat) (w : Addr) :
    TouchesNoMemory s (.next (tick n (t.setPc w))) := by
  obtain ⟨_, _, _, _, hdots⟩ := advanceDots_frame (3 * n) s.ppu
  rw [h]
  refine ⟨_, rfl, rfl, rfl, rfl, ?_⟩
  rw [tick_ppu, State.setPc_ppu, hdots]

theorem touchesNoMemory_branchIf (op : Byte) (cond : Bool) (b : Byte) (s : State) :
    TouchesNoMemory s (finish op (branchIf cond b s)) := by
  have hself : OnlyRegisters s s := rfl
  cases cond with
  | false => exact touchesNoMemory_tick hself _ _
  | true => exact touchesNoMemory_tick hself _ _

/-- Only the shifts and rotates have the accumulator format (R132). -/
theorem workOf_of_mode_acc {i : Instr} (h : i.mode = .acc) : ∃ f g, workOf i.mnemonic = .modifies f g := by
  cases i <;> cases h
  all_goals
    simp only [Instr.mnemonic, Instr.opcode]
    exact ⟨_, _, rfl⟩

theorem workOf_of_registerMnemonic {n : Mnemonic}
    (h : n ∈ ([.tax, .tay, .txa, .tya, .tsx, .txs, .inx, .iny, .dex, .dey, .clc, .sec, .cli, .sei, .cld, .sed, .clv, .nop,
      .bpl, .bmi, .bvc, .bvs, .bcc, .bcs, .bne, .beq] : List Mnemonic)) :
    (∃ f, workOf n = .registers f) ∨ ∃ cond, workOf n = .branches cond := by
  iterate 18 (obtain _ | ⟨_, h⟩ := h; · exact .inl ⟨_, rfl⟩)
  iterate 8 (obtain _ | ⟨_, h⟩ := h; · exact .inr ⟨_, rfl⟩)
  cases h

/-- Settles O52: each of the three shapes changes registers, moves PC, and charges cycles. -/
theorem registerInstructionsTouchNoMemory : Obligations.RegisterInstructionsTouchNoMemory := by
  intro i s hi
  show TouchesNoMemory s (exec i s)
  rw [exec_eq]
  obtain hmnemonic | hacc := hi
  · obtain ⟨f, hf⟩ | ⟨cond, hcond⟩ := workOf_of_registerMnemonic hmnemonic
    · rw [hf]
      exact touchesNoMemory_tick (onlyRegisters_of_registers hf s) _ _
    · rw [hcond]
      exact touchesNoMemory_branchIf _ _ _ _
  · obtain ⟨f, g, hf⟩ := workOf_of_mode_acc hacc
    rw [hf, hacc]
    exact touchesNoMemory_tick (onlyRegisters_onAccumulator hf s) _ _

end Sys2Proof.Machine
end

section
/-!
PROOFS. Arithmetic, logic, compares, increments and decrements (41_arithmetic_logic.md R190 to R208). The adder, the compare
and BIT are each put in the statements' terms by one equation, and the read-modify-write shape meets the statements' once
(`modifies_of_rmwOp`); a row of a statement is then an evaluation of its opcode's record. In RAM both accesses of a
read-modify-write complete (`rmwOp_of_ram`).
-/

namespace Sys2Proof.Machine

open Sys2Proof.Claims

/-! ### The adder (R190, R192) -/

theorem and_0x80_ne_zero (v : Byte) : ((v &&& 0x80) != 0) = v.msb := by
  revert v
  decide

theorem adderResult_msb (a m : Byte) (c : Bool) :
    (adderResult a m c).msb = decide (128 ≤ (a.toNat + m.toNat + c.toNat) % 256) := by
  rw [BitVec.msb_eq_decide, adderResult, adderSum, BitVec.toNat_ofNat]

/-- R190's overflow test, that the result's sign differs from both summands', says that the signed sum leaves
-128 to 127. -/
theorem adderOverflow_eq (a m : Byte) (c : Bool) :
    adderOverflow a m c =
      decide (a.toInt + m.toInt + c.toNat < -128 ∨ 127 < a.toInt + m.toInt + c.toNat) := by
  have ha := a.isLt
  have hm := m.isLt
  have hc := c.toNat_le
  rw [adderOverflow, and_0x80_ne_zero, BitVec.msb_and, BitVec.msb_xor, BitVec.msb_xor, adderResult_msb,
    BitVec.msb_eq_decide, BitVec.msb_eq_decide, BitVec.toInt_eq_toNat_cond, BitVec.toInt_eq_toNat_cond, Bool.eq_iff_iff]
  simp only [Bool.and_eq_true, bne_iff_ne, ne_eq, decide_eq_decide, decide_eq_true_eq]
  omega

theorem addWithCarry_eq (m : Byte) (s : State) : addWithCarry m s = added m s := by
  simp only [addWithCarry, adderOverflow_eq]
  exact congrArg (State.setP (s.setA _)) (znFlags_eq_zn _ _)

theorem subtractWithCarry_eq (m : Byte) (s : State) : subtractWithCarry m s = added (255 - m) s := by
  have hcomplement : ~~~ m = 255 - m := (BitVec.allOnes_sub_eq_not m).symm
  rw [subtractWithCarry, hcomplement, addWithCarry_eq]

/-- Settles O39: one equation for the adder and one for its use with the complement, and the records of the 17 opcodes. -/
theorem addAndSubtract : Obligations.AddAndSubtract := by
  intro b w
  have adc {i : Instr} {o : Operand} (op : Byte) (h : ∀ s, exec i s = readOp op addWithCarry o s) :=
    reads_of_readOp op h addWithCarry_eq fun _ _ => rfl
  have sbc {i : Instr} {o : Operand} (op : Byte) (h : ∀ s, exec i s = readOp op subtractWithCarry o s) :=
    reads_of_readOp op h subtractWithCarry_eq fun _ _ => rfl
  exact ⟨adc 0x69 fun _ => rfl, adc 0x65 fun _ => rfl, adc 0x75 fun _ => rfl, adc 0x6D fun _ => rfl,
    adc 0x7D fun _ => rfl, adc 0x79 fun _ => rfl, adc 0x61 fun _ => rfl, adc 0x71 fun _ => rfl,
    sbc 0xE9 fun _ => rfl, sbc 0xE5 fun _ => rfl, sbc 0xF5 fun _ => rfl, sbc 0xED fun _ => rfl,
    sbc 0xFD fun _ => rfl, sbc 0xF9 fun _ => rfl, sbc 0xE1 fun _ => rfl, sbc 0xF1 fun _ => rfl,
    sbc 0xEB fun _ => rfl⟩

/-! ### Subtracting and adding back (R208) -/

theorem getFlag_zn_c (p v : Byte) : getFlag (zn p v) .c = getFlag p .c := by
  simp [zn]

theorem added_carry (m : Byte) (s : State) :
    getFlag (added m s).p .c = decide (255 < s.a.toNat + m.toNat + (getFlag s.p .c).toNat) := by
  simp [added, getFlag_zn_c]

/-- What an immediate operand's instruction leaves in A and `P`: its operand is always readable. -/
theorem reads_imm_next {i : Instr} {b : Byte} {len n : Nat} {plus : Bool} {f : Byte → State → State} {s t : State}
    (h : Reads i (.imm b) len n plus f) (ht : exec i s = .next t) : t.a = (f b s).a ∧ t.p = (f b s).p := by
  obtain ⟨hcompletes, -⟩ := h s
  rw [hcompletes b false s rfl] at ht
  cases ht
  exact ⟨rfl, rfl⟩

/-- The byte and its complement sum to 255, which is -1 modulo 256. -/
theorem adderResult_adderResult_complement (a x : Byte) (c0 c1 : Bool) :
    adderResult (adderResult a (255 - x) c0) x c1 = a - 1 + BitVec.ofNat 8 c0.toNat + BitVec.ofNat 8 c1.toNat := by
  simp only [adderResult, adderSum]
  bv_omega

theorem sub_one_add_carries_eq_iff (a : Byte) (c0 c1 : Bool) :
    a - 1 + BitVec.ofNat 8 c0.toNat + BitVec.ofNat 8 c1.toNat = a ↔ c0 ≠ c1 := by
  revert a c0 c1
  decide

/-- Settles O56: the sums of R208 with the carries left open; with no borrow in, the carry SBC leaves says `x ≤ A`. -/
theorem subtractThenAdd : Obligations.SubtractThenAdd := by
  intro x s t u ht hu
  obtain ⟨hadc, -, -, -, -, -, -, -, hsbc, -⟩ := addAndSubtract x 0
  obtain ⟨hta, htp⟩ := reads_imm_next hsbc ht
  obtain ⟨hadded, -⟩ := reads_imm_next hadc hu
  have hua : u.a = s.a - 1 + BitVec.ofNat 8 (getFlag s.p .c).toNat + BitVec.ofNat 8 (getFlag t.p .c).toNat := by
    rw [hadded, ← adderResult_adderResult_complement s.a x]
    show adderResult t.a x _ = _
    rw [hta]
    rfl
  have hback : u.a = s.a ↔ getFlag s.p .c ≠ getFlag t.p .c := by
    rw [hua]
    exact sub_one_add_carries_eq_iff _ _ _
  refine ⟨hua, hback, fun hc => ?_⟩
  have hborrow : getFlag t.p .c = decide (x.toNat ≤ s.a.toNat) := by
    rw [htp, added_carry, hc, decide_eq_decide, Bool.toNat_true]
    bv_omega
  constructor
  · rw [hback, hc, hborrow]
    simp
  · intro hlt
    rw [hua, hc, hborrow, decide_eq_true (Nat.not_lt.mp hlt)]
    bv_omega

/-! ### Logic and compares (R193 to R200) -/

theorem bitTest_eq (m : Byte) (s : State) : bitTest m s = bitTested m s := rfl

theorem compareWith_eq (r m : Byte) (s : State) : compareWith r m s = compared r m s :=
  congrArg (State.setP s) (znFlags_eq_zn _ _)

/-- Settles O40: AND, ORA and EOR load A with the combined byte, and the records of the 26 opcodes. -/
theorem logicAndBitTest : Obligations.LogicAndBitTest := by
  intro b w
  have and {i : Instr} {o : Operand} (op : Byte) (h : ∀ s, exec i s = readOp op andA o s) :=
    reads_of_readOp (g := fun m s => loadedA (s.a &&& m) s) op h (fun m s => loadA_eq (s.a &&& m) s) fun _ _ => rfl
  have ora {i : Instr} {o : Operand} (op : Byte) (h : ∀ s, exec i s = readOp op orA o s) :=
    reads_of_readOp (g := fun m s => loadedA (s.a ||| m) s) op h (fun m s => loadA_eq (s.a ||| m) s) fun _ _ => rfl
  have eor {i : Instr} {o : Operand} (op : Byte) (h : ∀ s, exec i s = readOp op eorA o s) :=
    reads_of_readOp (g := fun m s => loadedA (s.a ^^^ m) s) op h (fun m s => loadA_eq (s.a ^^^ m) s) fun _ _ => rfl
  have bit {i : Instr} {o : Operand} (op : Byte) (h : ∀ s, exec i s = readOp op bitTest o s) :=
    reads_of_readOp op h bitTest_eq fun _ _ => rfl
  exact ⟨and 0x29 fun _ => rfl, and 0x25 fun _ => rfl, and 0x35 fun _ => rfl, and 0x2D fun _ => rfl,
    and 0x3D fun _ => rfl, and 0x39 fun _ => rfl, and 0x21 fun _ => rfl, and 0x31 fun _ => rfl,
    ora 0x09 fun _ => rfl, ora 0x05 fun _ => rfl, ora 0x15 fun _ => rfl, ora 0x0D fun _ => rfl,
    ora 0x1D fun _ => rfl, ora 0x19 fun _ => rfl, ora 0x01 fun _ => rfl, ora 0x11 fun _ => rfl,
    eor 0x49 fun _ => rfl, eor 0x45 fun _ => rfl, eor 0x55 fun _ => rfl, eor 0x4D fun _ => rfl,
    eor 0x5D fun _ => rfl, eor 0x59 fun _ => rfl, eor 0x41 fun _ => rfl, eor 0x51 fun _ => rfl,
    bit 0x24 fun _ => rfl, bit 0x2C fun _ => rfl⟩

/-- Settles O41: one equation for the compare with any register, and the records of the 14 opcodes. -/
theorem comparesSetCarryZeroNegative : Obligations.ComparesSetCarryZeroNegative := by
  intro b w
  have compare {i : Instr} {o : Operand} (op : Byte) (r : State → Byte)
      (h : ∀ s, exec i s = readOp op (fun m s => compareWith (r s) m s) o s) :=
    reads_of_readOp (g := fun m s => compared (r s) m s) op h (fun m s => compareWith_eq (r s) m s) fun _ _ => rfl
  exact ⟨compare 0xC9 (·.a) fun _ => rfl, compare 0xC5 (·.a) fun _ => rfl, compare 0xD5 (·.a) fun _ => rfl,
    compare 0xCD (·.a) fun _ => rfl, compare 0xDD (·.a) fun _ => rfl, compare 0xD9 (·.a) fun _ => rfl,
    compare 0xC1 (·.a) fun _ => rfl, compare 0xD1 (·.a) fun _ => rfl,
    compare 0xE0 (·.x) fun _ => rfl, compare 0xE4 (·.x) fun _ => rfl, compare 0xEC (·.x) fun _ => rfl,
    compare 0xC0 (·.y) fun _ => rfl, compare 0xC4 (·.y) fun _ => rfl, compare 0xCC (·.y) fun _ => rfl⟩

/-! ### Read-modify-writes (R83, R449) -/

/-- No access to the bus writes `P`. -/
theorem accessStable_p (p : Byte) : AccessStable (·.p = p) where
  ram _ _ _ h := h
  statusRead h := h
  dataRead _ h := h
  control _ h := h
  mask _ h := h
  oamAddr _ h := h
  oamData _ h := h
  scroll _ h := h
  address _ h := h
  dataWrite _ h := h
  joyRead h := h
  joyWrite _ h := h

theorem memWrite_fatal_p {a : Addr} {b : Byte} {s t : State} {k : FatalKind} (h : memWrite a b s = .fatal k t) :
    t.p = s.p := by
  have hp := (accessStable_p s.p).memWrite a b rfl
  rwa [h] at hp

theorem effAddr_pc {m : MemMode} {s t : State} {ea : Addr × Bool} (h : effAddr m s = .ok ea t) : t.pc = s.pc := by
  have hpc := (accessStable_pc s.pc).effAddr m rfl
  rwa [h] at hpc

theorem memRead_pc {a : Addr} {s t : State} {b : Byte} (h : memRead a s = .ok b t) : t.pc = s.pc :=
  (accessStable_pc s.pc).memRead_ok rfl h

theorem putFlag_getFlag (p : Byte) (f : Flag) : putFlag p f (getFlag p f) = p := by
  revert p
  cases f <;> decide

/-- An instruction that runs the model's read-modify-write shape has the statements', with the length and the cycles of its
opcode's record, for any statements `f'` and `g'` of what it writes and does after. The write comes after C is put, so a
fatal one leaves the C of `f'`. -/
theorem modifies_of_rmwOp {i : Instr} (op : Byte) {f f' : Byte → State → Byte × State} {g g' : Byte → State → State}
    {m : MemMode} (hexec : ∀ s, exec i s = rmwOp op f g m s) (hf : ∀ b s, f b s = f' b s) (hg : ∀ r s, g r s = g' r s)
    (hfpc : ∀ b s, (f' b s).2.pc = s.pc) (hgpc : ∀ r s, (g' r s).pc = s.pc) :
    Modifies i m (lengthOf op) (rowOf op).cycles f' g' := by
  obtain rfl : f = f' := funext fun b => funext (hf b)
  obtain rfl : g = g' := funext fun r => funext (hg r)
  intro s ea crossed s1 hea
  rw [hexec, rmwOp, hea, Access.andThen_ok]
  refine ⟨fun b s2 hread => ?_, fun k s2 hread => ?_⟩
  · rw [hread, Access.andThen_ok]
    refine ⟨fun charged s3 hwrite => ?_, fun k s3 hwrite => ⟨_, .inr rfl, ?_⟩⟩
    · have hpc : (g (f b s2).1 s3).pc = s.pc := calc
        (g (f b s2).1 s3).pc = s3.pc := hgpc _ _
        _ = (f b s2).2.pc := memWrite_pc hwrite
        _ = s2.pc := hfpc _ _
        _ = s1.pc := memRead_pc hread
        _ = s.pc := effAddr_pc hea
      rw [hwrite, Access.andThen_ok]
      exact congrArg _ (tick_advance_eq_after hpc _ _)
    · rw [hwrite, ← memWrite_fatal_p hwrite, putFlag_getFlag]
      rfl
  · rw [hread]
    rfl

/-! ### Increments and decrements (R201 to R206) -/

theorem flagsOfResult_eq (r : Byte) (s : State) : flagsOfResult r s = flagged r s :=
  congrArg (State.setP s) (znFlags_eq_zn s.p r)

/-- Settles O42: the shape of a read-modify-write for the memory forms, and the loads' equations for the register forms. -/
theorem incrementsAndDecrements : Obligations.IncrementsAndDecrements := by
  intro b w
  have inc {i : Instr} {m : MemMode} (op : Byte) (h : ∀ s, exec i s = rmwOp op incByte flagsOfResult m s) :=
    modifies_of_rmwOp op h (fun _ _ => rfl) flagsOfResult_eq (fun _ _ => rfl) fun _ _ => rfl
  have dec {i : Instr} {m : MemMode} (op : Byte) (h : ∀ s, exec i s = rmwOp op decByte flagsOfResult m s) :=
    modifies_of_rmwOp op h (fun _ _ => rfl) flagsOfResult_eq (fun _ _ => rfl) fun _ _ => rfl
  exact ⟨inc 0xE6 fun _ => rfl, inc 0xF6 fun _ => rfl, inc 0xEE fun _ => rfl, inc 0xFE fun _ => rfl,
    dec 0xC6 fun _ => rfl, dec 0xD6 fun _ => rfl, dec 0xCE fun _ => rfl, dec 0xDE fun _ => rfl,
    registers_of_registerOp 0xE8 (fun _ => rfl) (fun s => loadX_eq (s.x + 1) s) fun _ => rfl,
    registers_of_registerOp 0xC8 (fun _ => rfl) (fun s => loadY_eq (s.y + 1) s) fun _ => rfl,
    registers_of_registerOp 0xCA (fun _ => rfl) (fun s => loadX_eq (s.x - 1) s) fun _ => rfl,
    registers_of_registerOp 0x88 (fun _ => rfl) (fun s => loadY_eq (s.y - 1) s) fun _ => rfl⟩

/-! ### Read-modify-writes in RAM -/

/-- The read-modify-writes that go on to change A (R314 to R318). -/
abbrev accumulatingMnemonics : List Mnemonic := [.isb, .slo, .rla, .sre, .rra]

/-- What a read-modify-write does after its write: `P` changes, in the flags of arithmetic alone, and A where the mnemonic
accumulates. Each end is that of a reading instruction, or `SetZN`. -/
theorem modifies_end {n : Mnemonic} {f : Byte → State → Byte × State} {g : Byte → State → State}
    (hf : workOf n = .modifies f g) (r : Byte) (s : State) :
    ∃ a p, g r s = (s.setA a).setP p ∧
      (∀ k ∈ ([.i, .d, .b1, .b2] : List Flag), getFlag p k = getFlag s.p k) ∧
      (n ∉ accumulatingMnemonics → a = s.a) := by
  have accumulates {α : Prop} (h : n ∈ accumulatingMnemonics) : n ∉ accumulatingMnemonics → α := absurd h
  cases n <;> cases hf
  case inc | dec | asl | lsr | rol | ror =>
    refine ⟨s.a, _, rfl, fun k hk => ?_, fun _ => rfl⟩
    obtain ⟨-, hz, -, hn⟩ := ne_arithmeticFlag hk
    exact getFlag_znFlags_of_ne hz hn s.p r
  case dcp => exact ⟨s.a, _, rfl, fun _ => reads_flag (n := .cmp) rfl r s, fun _ => rfl⟩
  case isb => exact ⟨_, _, rfl, fun _ => reads_flag (n := .sbc) rfl r s, accumulates (by decide)⟩
  case slo => exact ⟨_, _, rfl, fun _ => reads_flag (n := .ora) rfl r s, accumulates (by decide)⟩
  case rla => exact ⟨_, _, rfl, fun _ => reads_flag (n := .and) rfl r s, accumulates (by decide)⟩
  case sre => exact ⟨_, _, rfl, fun _ => reads_flag (n := .eor) rfl r s, accumulates (by decide)⟩
  case rra => exact ⟨_, _, rfl, fun _ => reads_flag (n := .adc) rfl r s, accumulates (by decide)⟩

/-- In RAM both accesses complete: one byte of RAM changes, A and `P` as `modifies_end` has them, and PC and the time. -/
theorem rmwOp_of_ram {n : Mnemonic} {f : Byte → State → Byte × State} {g : Byte → State → State}
    (hf : workOf n = .modifies f g) {m : MemMode} {s : State} {ea : Addr} {crossed : Bool} {b : Byte}
    (hea : effAddr m s = .ok (ea, crossed) s) (hram : ea.toNat < 0x2000) (hb : s.ram.read (ea.toNat % 0x800) = b)
    (op : Byte) :
    ∃ a p, rmwOp op f g m s = .next (tick (rowOf op).cycles (advance op
        (((s.setRam (s.ram.write (ea.toNat % 0x800) (modifiedByte n b s))).setA a).setP p))) ∧
      (∀ k ∈ ([.i, .d, .b1, .b2] : List Flag), getFlag p k = getFlag s.p k) ∧
      (n ∉ accumulatingMnemonics → a = s.a) := by
  obtain ⟨p, hstate, hp⟩ := modifies_state hf b s
  have hwritten : f b s = (modifiedByte n b s, s.setP p) := Prod.ext (modifies_byte hf b s) hstate
  obtain ⟨a, q, hend, hq, ha⟩ := modifies_end hf (modifiedByte n b s)
    ((s.setP p).setRam (s.ram.write (ea.toNat % 0x800) (modifiedByte n b s)))
  refine ⟨a, q, ?_, fun k hk => (hq k hk).trans (hp k (ne_arithmeticFlag hk).1), ha⟩
  simp only [rmwOp, hea, Access.andThen_ok, memRead_of_ram hram, hb, hwritten, memWrite_of_ram hram, State.setP_ram, hend,
    finish, Nat.add_zero]
  rfl

theorem mode_ne_ind_of_modifyMnemonic {i : Instr} {m : MemMode} (hi : i.mnemonic ∈ modifyMnemonics)
    (hmode : i.mode = .mem m) : ∀ w, m ≠ .ind w := by
  rintro w rfl
  rw [mnemonic_of_mode_ind hmode] at hi
  exact absurd hi (by decide)

/-- Settles O54: the address is formed without effect, and `rmwOp_of_ram` gives the next state. -/
theorem modifiesInRamWriteOneByte : Obligations.ModifiesInRamWriteOneByte := by
  intro i m s s1 ea crossed hi hmode hea hram
  obtain rfl := effAddr_keeps_state (mode_ne_ind_of_modifyMnemonic hi hmode) hea
  obtain ⟨f, g, hf⟩ := workOf_of_modifyMnemonic hi
  obtain ⟨a, p, hnext, hflags, ha⟩ := rmwOp_of_ram hf hea hram rfl i.opcode
  rw [exec_eq, hf, hmode]
  exact ⟨_, hnext, Memory.read_write_same _ _ _, fun n hn => Memory.read_write_other _ _ hn, advanceDots_vram _ _,
    advanceDots_palette _ _, advanceDots_oam _ _, rfl, rfl, rfl, rfl, rfl, hflags, ha⟩

end Sys2Proof.Machine
end

section
/-!
PROOFS. Shifts and rotates (42_shift_rotate.md R230 to R234). Each of the four is put in the statements' terms by one
equation; the shape for memory is the read-modify-write's (`modifies_of_rmwOp`), the shape for A is `onAccumulator_eq`,
and a row of the statement is then an evaluation of its opcode's record.
-/

namespace Sys2Proof.Machine

open Sys2Proof.Claims

/-! ### The bit shifted out and the byte left (R231 to R234) -/

theorem getLsbD_seven (v : Byte) : v.getLsbD 7 = decide (128 ≤ v.toNat) :=
  (BitVec.msb_eq_getLsbD_last v).symm.trans (BitVec.msb_eq_decide v)

theorem getLsbD_zero (v : Byte) : v.getLsbD 0 = decide (v.toNat % 2 = 1) := Nat.testBit_zero v.toNat

/-- A shift or rotate in the model is the statements' once its byte and the bit it shifts out are. -/
theorem eq_shifted {b : Byte} {r : Nat} {c c' : Bool} (hb : b = BitVec.ofNat 8 r) (hc : c = c') (s : State) :
    (b, s.setFlag .c c) = shifted r c' s := by
  rw [hb, hc]
  rfl

theorem aslByte_eq (v : Byte) (s : State) : aslByte v s = shiftedLeft v s :=
  eq_shifted (modifies_byte (n := .asl) rfl v s) (getLsbD_seven v) s

theorem lsrByte_eq (v : Byte) (s : State) : lsrByte v s = shiftedRight v s :=
  eq_shifted (modifies_byte (n := .lsr) rfl v s) (getLsbD_zero v) s

theorem rolByte_eq (v : Byte) (s : State) : rolByte v s = rotatedLeft v s :=
  eq_shifted (modifies_byte (n := .rol) rfl v s) (getLsbD_seven v) s

theorem rorByte_eq (v : Byte) (s : State) : rorByte v s = rotatedRight v s :=
  eq_shifted (modifies_byte (n := .ror) rfl v s) (getLsbD_zero v) s

/-! ### The two forms (R230) -/

/-- On A, what the model does is what the statements say: the shift moves `P` alone before A and its flags are set. -/
theorem onAccumulator_eq {n : Mnemonic} {f f' : Byte → State → Byte × State} {g : Byte → State → State}
    (hwork : workOf n = .modifies f g) (hf : ∀ v s, f v s = f' v s) (s : State) :
    onAccumulator f s = accumulatorBy f' s := by
  obtain ⟨p, hp, -⟩ := modifies_state hwork s.a s
  rw [onAccumulator, accumulatorBy, ← hf, hp, State.setZN, znFlags_eq_zn]
  rfl

/-- Settles O43: one equation for each of the four shifts and rotates, the two forms, the records of the 20 opcodes. -/
theorem shiftsAndRotates : Obligations.ShiftsAndRotates := by
  intro b w
  have asl {i : Instr} {m : MemMode} (op : Byte) (h : ∀ s, exec i s = rmwOp op aslByte flagsOfResult m s) :=
    modifies_of_rmwOp op h aslByte_eq flagsOfResult_eq (fun _ _ => rfl) fun _ _ => rfl
  have lsr {i : Instr} {m : MemMode} (op : Byte) (h : ∀ s, exec i s = rmwOp op lsrByte flagsOfResult m s) :=
    modifies_of_rmwOp op h lsrByte_eq flagsOfResult_eq (fun _ _ => rfl) fun _ _ => rfl
  have rol {i : Instr} {m : MemMode} (op : Byte) (h : ∀ s, exec i s = rmwOp op rolByte flagsOfResult m s) :=
    modifies_of_rmwOp op h rolByte_eq flagsOfResult_eq (fun _ _ => rfl) fun _ _ => rfl
  have ror {i : Instr} {m : MemMode} (op : Byte) (h : ∀ s, exec i s = rmwOp op rorByte flagsOfResult m s) :=
    modifies_of_rmwOp op h rorByte_eq flagsOfResult_eq (fun _ _ => rfl) fun _ _ => rfl
  exact ⟨asl 0x06 fun _ => rfl, asl 0x16 fun _ => rfl, asl 0x0E fun _ => rfl, asl 0x1E fun _ => rfl,
    lsr 0x46 fun _ => rfl, lsr 0x56 fun _ => rfl, lsr 0x4E fun _ => rfl, lsr 0x5E fun _ => rfl,
    rol 0x26 fun _ => rfl, rol 0x36 fun _ => rfl, rol 0x2E fun _ => rfl, rol 0x3E fun _ => rfl,
    ror 0x66 fun _ => rfl, ror 0x76 fun _ => rfl, ror 0x6E fun _ => rfl, ror 0x7E fun _ => rfl,
    registers_of_registerOp 0x0A (fun _ => rfl) (onAccumulator_eq (n := .asl) rfl aslByte_eq) fun _ => rfl,
    registers_of_registerOp 0x4A (fun _ => rfl) (onAccumulator_eq (n := .lsr) rfl lsrByte_eq) fun _ => rfl,
    registers_of_registerOp 0x2A (fun _ => rfl) (onAccumulator_eq (n := .rol) rfl rolByte_eq) fun _ => rfl,
    registers_of_registerOp 0x6A (fun _ => rfl) (onAccumulator_eq (n := .ror) rfl rorByte_eq) fun _ => rfl⟩

end Sys2Proof.Machine
end

section
/-!
PROOFS. Control transfer (43_control_flow.md R250 to R266). `exec_ending` says once how an instruction can end: at a fatal
condition, halted by BRK, or with the run as it was and, where its mnemonic is no control transfer, PC past it. Branches
meet the statements' shape in `branchesIf_of_jumpOp`; the calls and returns are the two-byte stack accesses of
10_state.md with PC set.
-/

namespace Sys2Proof.Machine

open Sys2Proof.Claims

/-! ### The body of an instruction leaves PC and the run -/

/-- `t` is a state on the way through the instruction that began at `s`: PC still at the opcode byte (R23), the run as it
was. -/
def InProgress (s t : State) : Prop := t.pc = s.pc ∧ t.run = s.run

theorem InProgress.refl (s : State) : InProgress s s := ⟨rfl, rfl⟩

/-- No access to the bus moves PC or ends the run. -/
theorem accessStable_inProgress (s : State) : AccessStable (InProgress s) where
  ram _ _ _ h := h
  statusRead h := h
  dataRead _ h := h
  control _ h := h
  mask _ h := h
  oamAddr _ h := h
  oamData _ h := h
  scroll _ h := h
  address _ h := h
  dataWrite _ h := h
  joyRead h := h
  joyWrite _ h := h

theorem InProgress.onlyRegisters {s t u : State} (h : InProgress s t) (hu : OnlyRegisters t u) : InProgress s u := by
  rw [hu]
  exact h

theorem onlyRegisters_of_reads {n : Mnemonic} {f : Byte → State → State} (hf : workOf n = .reads f) (b : Byte)
    (s : State) : OnlyRegisters s (f b s) := by
  cases n <;> cases hf <;> rfl

theorem onlyRegisters_of_modifies {n : Mnemonic} {f : Byte → State → Byte × State} {g : Byte → State → State}
    (hf : workOf n = .modifies f g) (b : Byte) (s : State) :
    OnlyRegisters s (f b s).2 ∧ OnlyRegisters s (g b s) := by
  obtain ⟨p, hstate, -⟩ := modifies_state hf b s
  obtain ⟨a, q, hend, -⟩ := modifies_end hf b s
  rw [hstate, hend]
  exact ⟨rfl, rfl⟩

/-- PHA, PHP, PLA and PLP work on the stack, A and `P`. -/
theorem inProgress_stack {n : Mnemonic} {f : State → Access Unit} (hf : workOf n = .stack f) (s : State) :
    (f s).keeps (InProgress s) := by
  have hpush (b : Byte) : (push b s).keeps (InProgress s) := by
    rw [push_eq]
    exact ⟨rfl, rfl⟩
  cases n <;> cases hf
  case pha | php => exact hpush _
  case pla =>
    rw [pullA, pop_eq]
    exact ⟨rfl, rfl⟩
  case plp =>
    rw [pullP, pop_eq]
    exact ⟨rfl, rfl⟩

/-! ### How an instruction ends -/

/-- The mnemonics that set PC themselves or stop the run (R250). -/
abbrev transferMnemonics : List Mnemonic :=
  [.bpl, .bmi, .bvc, .bvs, .bcc, .bcs, .bne, .beq, .jmp, .jsr, .rts, .rti, .brk, .ill]

/-- The work is that of a mnemonic in `transferMnemonics`. -/
def Work.movesPc : Work → Bool
  | .branches _ | .jumps | .transfers _ | .halts | .faults => true
  | .reads _ | .stores _ | .modifies _ _ | .registers _ | .stack _ => false

theorem movesPc_workOf (n : Mnemonic) : (workOf n).movesPc = decide (n ∈ transferMnemonics) := by
  cases n <;> rfl

/-- `t` is where an instruction with opcode byte `op` and work `w`, begun at `s`, has done all but its `Tick`. -/
structure WorkDone (op : Byte) (w : Work) (s t : State) : Prop where
  run : t.run = s.run
  pc : w.movesPc = false → t.pc = s.pc + BitVec.ofNat 16 (lengthOf op)

theorem InProgress.advance {s t : State} (h : InProgress s t) (op : Byte) (w : Work) :
    WorkDone op w s (advance op t) := by
  obtain ⟨hpc, hrun⟩ := h
  exact ⟨hrun, fun _ => congrArg (· + _) hpc⟩

/-- The access's state has the property if the access completes. -/
def Access.completesIn {α : Type} (I : State → Prop) : Access α → Prop
  | .ok _ t => I t
  | .fatal _ _ => True

theorem Access.completesIn_andThen {α β : Type} {I J : State → Prop} {r : Access α} {f : α → State → Access β}
    (h : r.keeps I) (hf : ∀ v s, I s → (f v s).completesIn J) : (r.andThen f).completesIn J := by
  cases r with
  | ok v s => exact hf v s h
  | fatal k s => trivial

theorem workDone_branchIf (op : Byte) {cond : State → Bool} (c : Bool) (b : Byte) (s : State) :
    (branchIf c b s).completesIn (WorkDone op (.branches cond) s) := by
  cases c <;> exact ⟨rfl, nofun⟩

/-- JSR, RTS and RTI end with the run as it was. -/
theorem workDone_transfers {n : Mnemonic} {f : Addr → State → Access Nat} (hf : workOf n = .transfers f) (w : Addr)
    (op : Byte) (s : State) : (f w s).completesIn (WorkDone op (.transfers f) s) := by
  cases n <;> cases hf
  case jsr =>
    rw [callSubroutine, push16_eq]
    exact ⟨rfl, nofun⟩
  case rts =>
    show (returnFromSubroutine s).completesIn _
    rw [returnFromSubroutine, pop16_eq]
    exact ⟨rfl, nofun⟩
  case rti =>
    show (returnFromInterrupt s).completesIn _
    rw [returnFromInterrupt, pop_eq, Access.andThen_ok, pop16_eq]
    exact ⟨rfl, nofun⟩

/-- The two ends of an instruction with opcode byte `op` and work `w` that neither halts nor is ILL: its work done and the
`Tick` charged, or faulted. -/
def Finishes (op : Byte) (w : Work) (s : State) (r : Host.Outcome State Fault Refusal) : Prop :=
  ∀ t, r = .next t → (∃ n u, WorkDone op w s u ∧ t = tick n u) ∨ ∃ k, t.run = .faulted k

theorem finishes_finish {op : Byte} {w : Work} {s : State} {r : Access Nat} (h : r.completesIn (WorkDone op w s)) :
    Finishes op w s (finish op r) := by
  intro t ht
  cases r with
  | ok n u => cases ht; exact .inl ⟨_, u, h, rfl⟩
  | fatal k u => cases ht; exact .inr ⟨k, rfl⟩

/-- Every instruction but BRK and ILL ends in one of these two ways. -/
theorem finishes_runWork (n : Mnemonic) (hhalts : workOf n ≠ .halts) (hfaults : workOf n ≠ .faults) (op : Byte)
    (m : Mode) (s : State) : Finishes op (workOf n) s (runWork op (workOf n) m s) := by
  have hI := accessStable_inProgress s
  have hs := InProgress.refl s
  cases hw : workOf n with
  | reads f =>
    exact finishes_finish (Access.completesIn_andThen (hI.readOperand _ hs) fun b u h =>
      (h.onlyRegisters (onlyRegisters_of_reads hw b.1 u)).advance op _)
  | stores v =>
    exact finishes_finish (Access.completesIn_andThen (hI.effAddr _ hs) fun _ _ h =>
      Access.completesIn_andThen (hI.memWrite _ _ h) fun _ _ h => h.advance op _)
  | modifies f g =>
    have hm := onlyRegisters_of_modifies hw
    unfold runWork
    dsimp only
    split
    · exact finishes_finish (r := .ok _ _) ((hs.onlyRegisters (onlyRegisters_onAccumulator hw s)).advance op _)
    · exact finishes_finish (Access.completesIn_andThen (hI.effAddr _ hs) fun _ _ h =>
        Access.completesIn_andThen (hI.memRead _ h) fun b u h =>
        Access.completesIn_andThen (hI.memWrite _ _ (h.onlyRegisters (hm b u).1)) fun _ v h =>
          (h.onlyRegisters (hm _ v).2).advance op _)
  | registers f =>
    exact finishes_finish (r := .ok _ _) ((hs.onlyRegisters (onlyRegisters_of_registers hw s)).advance op _)
  | stack f => exact finishes_finish (Access.completesIn_andThen (inProgress_stack hw s) fun _ _ h => h.advance op _)
  | branches cond => exact finishes_finish (workDone_branchIf op _ _ s)
  | jumps => exact finishes_finish (Access.completesIn_andThen (hI.effAddr _ hs) fun _ _ ⟨_, hrun⟩ => ⟨hrun, nofun⟩)
  | transfers f => exact finishes_finish (workDone_transfers hw _ op s)
  | halts => exact absurd hw hhalts
  | faults => exact absurd hw hfaults

theorem eq_brk_of_halts {i : Instr} (h : workOf i.mnemonic = .halts) : i = .brk := by
  cases i
  case brk => rfl
  all_goals
    simp only [Instr.mnemonic, Instr.opcode] at h
    cases h

/-- Everything an instruction can leave: a fatal condition, BRK's halt, or the run as it was, and then PC past the
instruction unless its mnemonic is a control transfer. -/
theorem exec_ending {i : Instr} {s t : State} (h : exec i s = .next t) :
    (∃ k, t.run = .faulted k) ∨ (i = .brk ∧ t.run = .halted) ∨
      (t.run = s.run ∧ (i.mnemonic ∉ transferMnemonics → t.pc = s.pc + BitVec.ofNat 16 i.length)) := by
  by_cases hhalts : workOf i.mnemonic = .halts
  · obtain rfl := eq_brk_of_halts hhalts
    cases h
    exact .inr (.inl ⟨rfl, rfl⟩)
  rw [exec_eq] at h
  by_cases hfaults : workOf i.mnemonic = .faults
  · rw [hfaults] at h
    cases h
    exact .inl ⟨_, rfl⟩
  obtain ⟨n, u, hdone, rfl⟩ | hfaulted := finishes_runWork _ hhalts hfaults _ _ _ t h
  · exact .inr (.inr ⟨hdone.run, fun hn => hdone.pc ((movesPc_workOf _).trans (decide_eq_false hn))⟩)
  · exact .inl hfaulted

/-- Settles O18: of the three endings only BRK's is halted, and BRK's is an evaluation. -/
theorem onlyBrkHalts : Obligations.OnlyBrkHalts := by
  refine ⟨fun i s t hs h ht => ?_, fun _ => rfl⟩
  obtain ⟨k, hk⟩ | ⟨hbrk, -⟩ | ⟨hrun, -⟩ := exec_ending h
  · exact nomatch hk.symm.trans ht
  · exact hbrk
  · exact nomatch hs.symm.trans (hrun.symm.trans ht)

/-- Settles O20: of the three endings only the last is running. -/
theorem onlyTransfersMoveThePc : Obligations.OnlyTransfersMoveThePc := by
  intro i s t hi _ h ht
  obtain ⟨k, hk⟩ | ⟨-, hhalted⟩ | ⟨-, hpc⟩ := exec_ending h
  · exact nomatch hk.symm.trans ht
  · exact nomatch hhalted.symm.trans ht
  · exact hpc hi

/-! ### Branches (R251 to R259) -/

theorem branchIf_false (b : Byte) (s : State) : branchIf false b s = .ok 0 (s.setPc (s.pc + 2)) := rfl

/-- A branch that is taken costs one cycle more, and one more still to another page (R251). -/
theorem branchIf_true (b : Byte) (s : State) :
    branchIf true b s =
      .ok (if hiByte (s.pc + 2 + b.signExtend 16) = hiByte (s.pc + 2) then 1 else 2)
        (s.setPc (s.pc + 2 + b.signExtend 16)) := by
  have hcharge : (1 + if pageDiffers (branchTarget b s) (branchNext s) then 1 else 0) =
      if hiByte (branchTarget b s) = hiByte (branchNext s) then 1 else 2 := by
    rw [pageDiffers_eq]
    by_cases hpage : hiByte (branchTarget b s) = hiByte (branchNext s) <;> simp [hpage]
  exact congrArg (Access.ok · (s.setPc (branchTarget b s))) hcharge

theorem branchesIf_of_jumpOp {i : Instr} {b : Byte} {cond : State → Bool} (op : Byte)
    (hexec : ∀ s, exec i s = jumpOp op (fun s => branchIf (cond s) b s) s) (hcycles : (rowOf op).cycles = 2) :
    BranchesIf i b cond := by
  intro s
  rw [hexec, jumpOp]
  constructor
  · intro hcond
    rw [hcond, branchIf_false, finish, hcycles]
    rfl
  · intro hcond
    rw [hcond, branchIf_true, finish, hcycles, apply_ite (2 + ·)]
    rfl

/-- Settles O44: the shape of a branch, with each branch's flag and record. -/
theorem branchesFollowTheirFlag : Obligations.BranchesFollowTheirFlag :=
  fun _ =>
    ⟨branchesIf_of_jumpOp 0x10 (fun _ => rfl) rfl, branchesIf_of_jumpOp 0x30 (fun _ => rfl) rfl,
      branchesIf_of_jumpOp 0x50 (fun _ => rfl) rfl, branchesIf_of_jumpOp 0x70 (fun _ => rfl) rfl,
      branchesIf_of_jumpOp 0x90 (fun _ => rfl) rfl, branchesIf_of_jumpOp 0xB0 (fun _ => rfl) rfl,
      branchesIf_of_jumpOp 0xD0 (fun _ => rfl) rfl, branchesIf_of_jumpOp 0xF0 (fun _ => rfl) rfl⟩

/-! ### Jumps, calls and returns (R260 to R264) -/

/-- JMP indirect reads the pointer's low byte, and its high byte from the same page (R127, R261). -/
theorem exec_jmpInd (w : Addr) (s : State) :
    exec (.jmpInd w) s =
      finish 0x6C ((memRead w s).andThen fun lo s =>
        (memRead (hilo (hiByte w) (loByte w + 1)) s).andThen fun hi s => .ok 0 (s.setPc (hilo hi lo))) := by
  show finish 0x6C (jumpTo (.ind w) s) = _
  simp only [jumpTo, effAddr, readPointer, Access.andThen_assoc, Access.andThen_ok]

theorem exec_jsrAbs (w : Addr) (s : State) :
    exec (.jsrAbs w) s =
      .next (tick 6 (((s.setRam (pushedWord s.ram s.sp (s.pc + 2))).setSp (s.sp - 2)).setPc w)) := by
  show finish 0x20 (callSubroutine w s) = _
  rw [callSubroutine, push16_eq]
  rfl

theorem exec_rts (s : State) :
    exec .rts s =
      .next (tick 6 ((s.setSp (s.sp + 2)).setPc
        (hilo (s.ram.read (256 + (s.sp + 2).toNat)) (s.ram.read (256 + (s.sp + 1).toNat)) + 1))) := by
  show finish 0x60 (returnFromSubroutine s) = _
  rw [returnFromSubroutine, pop16_eq]
  rfl

/-- RTI pops three bytes: `P`, then PC low and high (R264). -/
theorem exec_rti (s : State) :
    exec .rti s =
      .next (tick 6 (((s.setSp (s.sp + 3)).setP (restoredP (s.ram.read (256 + (s.sp + 1).toNat)))).setPc
        (hilo (s.ram.read (256 + (s.sp + 3).toNat)) (s.ram.read (256 + (s.sp + 2).toNat))))) := by
  have hhi : s.sp + 1 + 2 = s.sp + 3 := by bv_omega
  have hlo : s.sp + 1 + 1 = s.sp + 2 := by bv_omega
  show finish 0x40 (returnFromInterrupt s) = _
  simp only [returnFromInterrupt, pop_eq, pop16_eq, Access.andThen_ok, State.setP_sp, State.setP_ram, State.setSp_sp,
    State.setSp_ram, hhi, hlo]
  rfl

/-- Settles O45: one equation for each of the four that access memory, and the cases of JMP indirect's two reads. -/
theorem jumpsCallsAndReturns : Obligations.JumpsCallsAndReturns := by
  intro w s
  refine ⟨rfl, ?_, ?_, ?_, exec_jsrAbs w s, exec_rts s, exec_rti s⟩
  · intro lo s1 hi s2 hlo hhi
    rw [exec_jmpInd, hlo, Access.andThen_ok, hhi]
    rfl
  · intro k s1 hlo
    rw [exec_jmpInd, hlo]
    rfl
  · intro lo s1 k s2 hlo hhi
    rw [exec_jmpInd, hlo, Access.andThen_ok, hhi]
    rfl

end Sys2Proof.Machine
end

section
/-!
PROOFS. Stack instructions, flag instructions and NOP (44_stack_flags_nop.md R280 to R292). The model's stack shape meets the
statements' shape once, in `registers_of_stackOp`, for a stack access that completes; the flag instructions and NOP have the
register shape already.
-/

namespace Sys2Proof.Machine

open Sys2Proof.Claims

/-! ### Stack instructions (R281 to R284) -/

/-- An instruction whose access to the stack always completes has the statements' shape of a change of the state, with the
length and cycles of its opcode's record. -/
theorem registers_of_stackOp {i : Instr} (op : Byte) {f : State → Access Unit} {g : State → State}
    (hexec : ∀ s, exec i s = stackOp op f s) (hf : ∀ s, f s = .ok () (g s)) (hpc : ∀ s, (g s).pc = s.pc) :
    Registers i (lengthOf op) (rowOf op).cycles g := by
  intro s
  rw [hexec, stackOp, hf]
  exact congrArg _ (tick_advance_eq_after (hpc s) _ _)

theorem pullA_eq (s : State) :
    pullA s = .ok () (loadA (s.ram.read (256 + (s.sp + 1).toNat)) (s.setSp (s.sp + 1))) := by
  rw [pullA, pop_eq]
  rfl

theorem pullP_eq (s : State) :
    pullP s = .ok () ((s.setSp (s.sp + 1)).setP (restoredP (s.ram.read (256 + (s.sp + 1).toNat)))) := by
  rw [pullP, pop_eq]
  rfl

/-- Settles O46: a push or a pop never leaves RAM, so each completes; PLA is a load of A from the stack. -/
theorem stackInstructions : Obligations.StackInstructions :=
  ⟨registers_of_stackOp 0x48 (fun _ => rfl) (fun s => push_eq s.a s) fun _ => rfl,
    registers_of_stackOp 0x08 (fun _ => rfl) (fun s => push_eq (phpPushedP s.p) s) fun _ => rfl,
    registers_of_stackOp 0x68 (fun _ => rfl)
      (fun s => (pullA_eq s).trans (congrArg (Access.ok ()) (loadA_eq _ _))) fun _ => rfl,
    registers_of_stackOp 0x28 (fun _ => rfl) pullP_eq fun _ => rfl⟩

/-! ### Flag instructions and NOP (R285 to R292) -/

/-- Settles O47: each of the eight is the register shape of its opcode's record, on one flag or on none. -/
theorem flagInstructionsAndNop : Obligations.FlagInstructionsAndNop := by
  have flag {i : Instr} (op : Byte) (f : Flag) (b : Bool) (h : ∀ s, exec i s = registerOp op (State.setFlag · f b) s) :=
    registers_of_registerOp op (g := fun s => { s with p := putFlag s.p f b }) h (fun _ => rfl) fun _ => rfl
  exact ⟨flag 0x18 .c false fun _ => rfl, flag 0x38 .c true fun _ => rfl,
    flag 0x58 .i false fun _ => rfl, flag 0x78 .i true fun _ => rfl,
    flag 0xD8 .d false fun _ => rfl, flag 0xF8 .d true fun _ => rfl,
    flag 0xB8 .v false fun _ => rfl,
    registers_of_registerOp 0xEA (fun _ => rfl) (fun _ => rfl) fun _ => rfl⟩

end Sys2Proof.Machine
end

section
/-!
PROOFS. The PPU registers of 47_ppu_registers.md that have statements of their own: Control (R352), the two latched
pairs (R360, R362), and the data port (R364 to R366) over the PPU address space of 20_memory.md (R90 to R95).
-/

namespace Sys2Proof.Machine

open Sys2Proof.Claims

/-! ### Control (R352) -/

theorem memWrite_of_controlRegister {a : Addr} (h : ppuReg a 0) (b : Byte) (s : State) :
    memWrite a b s = .ok 0 (s.setPpu (controlWrite b s.ppu)) := by
  obtain ⟨hlo, hhi, hr⟩ := h
  simp only [memWrite_of_ppu hlo hhi, ppuRegWrite, hr]

theorem controlWrite_eq (b : Byte) (u : Ppu) :
    controlWrite b u =
      { u with
        ctrl := b
        pendingNmi :=
          if u.ctrl.getLsbD 7 = false ∧ b.getLsbD 7 = true ∧ u.status.getLsbD 7 = true then true
          else u.pendingNmi } := by
  rw [controlWrite]
  congr 1
  split
  · next hedge =>
    obtain ⟨hold, hnew, hvblank⟩ := hedge
    rw [hold, hnew, hvblank]
    exact Bool.or_true _
  · next hedge =>
    have hnone : (!u.ctrl.getLsbD 7 && b.getLsbD 7 && u.status.getLsbD 7) = false := by simpa using hedge
    rw [hnone, Bool.or_false]

/-- Settles O25: the request is set on the edge of bit 7, and a request that stands is kept. -/
theorem controlWriteRearmsTheNmi : Obligations.ControlWriteRearmsTheNmi :=
  fun _ b s h => by rw [memWrite_of_controlRegister h, controlWrite_eq]; rfl

/-! ### Scroll and Address (R360, R362) -/

theorem memWrite_of_scrollRegister {a : Addr} (h : ppuReg a 5) (b : Byte) (s : State) :
    memWrite a b s = .ok 0 (s.setPpu (scrollWrite b s.ppu)) := by
  obtain ⟨hlo, hhi, hr⟩ := h
  simp only [memWrite_of_ppu hlo hhi, ppuRegWrite, hr]

theorem memWrite_of_addressRegister {a : Addr} (h : ppuReg a 6) (b : Byte) (s : State) :
    memWrite a b s = .ok 0 (s.setPpu (addressWrite b s.ppu)) := by
  obtain ⟨hlo, hhi, hr⟩ := h
  simp only [memWrite_of_ppu hlo hhi, ppuRegWrite, hr]

/-- The high byte of an Address write: two of its bits are shifted out, and the low byte of `v` stays. -/
theorem toNat_addressHigh (b : Byte) (v : PpuAddr) :
    ((b.setWidth 14 <<< 8) ||| (v &&& 0x00FF)).toNat = b.toNat % 64 * 256 + v.toNat % 256 := by
  have hhigh : (b.setWidth 14 <<< 8).toNat = (b.toNat % 64) <<< 8 := by
    rw [BitVec.toNat_shiftLeft, BitVec.toNat_setWidth, Nat.shiftLeft_eq, Nat.shiftLeft_eq]
    omega
  have hlow : (v &&& 0x00FF).toNat = v.toNat % 2 ^ 8 := Nat.and_two_pow_sub_one_eq_mod v.toNat 8
  rw [BitVec.toNat_or, hhigh, hlow, ← Nat.shiftLeft_add_eq_or_of_lt (Nat.mod_lt _ (by decide)), Nat.shiftLeft_eq]

/-- The low byte of an Address write: the six high bits of `v` stay. -/
theorem toNat_addressLow (b : Byte) (v : PpuAddr) :
    ((v &&& 0x3F00) ||| b.setWidth 14).toNat = v.toNat / 256 * 256 + b.toNat := by
  have hhigh : (v &&& 0x3F00).toNat = (v.toNat / 256) <<< 8 := by
    have hmask : v &&& (0x3F00 : PpuAddr) = v >>> 8 <<< 8 := (BitVec.shiftLeft_ushiftRight (x := v) (n := 8)).symm
    rw [hmask, BitVec.toNat_shiftLeft, BitVec.toNat_ushiftRight, Nat.shiftRight_eq_div_pow, Nat.shiftLeft_eq]
    omega
  have hlow : (b.setWidth 14).toNat = b.toNat := BitVec.toNat_setWidth_of_le (by decide)
  rw [BitVec.toNat_or, hhigh, hlow, ← Nat.shiftLeft_add_eq_or_of_lt b.isLt, Nat.shiftLeft_eq]

/-- Settles O26: one equation for each position of each latch. -/
theorem scrollAndAddressLatches : Obligations.ScrollAndAddressLatches := by
  intro a b s
  refine ⟨fun h hlatch => ?_, fun h hlatch => ?_, fun h hlatch => ⟨_, ?_, toNat_addressHigh b s.ppu.v⟩,
    fun h hlatch => ⟨_, ?_, toNat_addressLow b s.ppu.v⟩⟩
  · rw [memWrite_of_scrollRegister h, scrollWrite, hlatch]; rfl
  · rw [memWrite_of_scrollRegister h, scrollWrite, hlatch]; rfl
  · rw [memWrite_of_addressRegister h, addressWrite, hlatch]; rfl
  · rw [memWrite_of_addressRegister h, addressWrite, hlatch]; rfl

/-! ### The PPU address space, region by region (R90 to R95) -/

theorem mirrorVram_vertical {a : PpuAddr} (hlo : 0x2000 ≤ a.toNat) :
    mirrorVram .vertical a = .ok (a.toNat % 0x800) := by
  simp only [mirrorVram, nametableBank]
  refine congrArg Except.ok ?_
  omega

theorem mirrorVram_horizontal {a : PpuAddr} (hlo : 0x2000 ≤ a.toNat) :
    mirrorVram .horizontal a = .ok ((a.toNat - 0x2000) / 0x800 * 0x400 + a.toNat % 0x400) := by
  simp only [mirrorVram, nametableBank]
  refine congrArg Except.ok ?_
  omega

theorem mirrorVram_fourScreen (a : PpuAddr) : mirrorVram .fourScreen a = .error .unsupportedMirroring := rfl

theorem palIndex_eq {a : PpuAddr} (hlo : 0x3F00 ≤ a.toNat) :
    palIndex a = if 0x10 ≤ a.toNat % 32 ∧ a.toNat % 4 = 0 then a.toNat % 32 - 0x10 else a.toNat % 32 := by
  have hbase : (a.toNat - 0x3F00) % 32 = a.toNat % 32 := by omega
  have halias : (a.toNat % 32 = 0x10 ∨ a.toNat % 32 = 0x14 ∨ a.toNat % 32 = 0x18 ∨ a.toNat % 32 = 0x1C) ↔
      0x10 ≤ a.toNat % 32 ∧ a.toNat % 4 = 0 := by omega
  simp only [palIndex, hbase, halias]

section Regions

variable {cart : Cartridge} {u : Ppu} {a : PpuAddr}

theorem ppuMemRead_of_chr (h : a.toNat < 0x2000) : ppuMemRead cart u a = .ok (cart.chr.read a.toNat) := if_pos h

theorem ppuMemRead_of_nametable {i : Nat} (hlo : 0x2000 ≤ a.toNat) (hhi : a.toNat < 0x3000)
    (hi : mirrorVram cart.mirroring a = .ok i) : ppuMemRead cart u a = .ok (u.vram.read i) := by
  rw [ppuMemRead, if_neg (by omega), if_pos hhi, hi]

theorem ppuMemRead_of_unmapped {k : FatalKind} (hlo : 0x2000 ≤ a.toNat) (hhi : a.toNat < 0x3000)
    (hk : mirrorVram cart.mirroring a = .error k) : ppuMemRead cart u a = .error k := by
  rw [ppuMemRead, if_neg (by omega), if_pos hhi, hk]

theorem ppuMemRead_of_unused (hlo : 0x3000 ≤ a.toNat) (hhi : a.toNat < 0x3F00) :
    ppuMemRead cart u a = .error (.ppuAddrUnused a) := by
  rw [ppuMemRead, if_neg (by omega), if_neg (by omega), if_pos hhi]

theorem ppuMemRead_of_palette (hlo : 0x3F00 ≤ a.toNat) :
    ppuMemRead cart u a = .ok (u.palette.read (palIndex a)) := by
  rw [ppuMemRead, if_neg (by omega), if_neg (by omega), if_neg (by omega)]

theorem ppuMemWrite_of_chr (b : Byte) (h : a.toNat < 0x2000) : ppuMemWrite cart u a b = .ok u := if_pos h

theorem ppuMemWrite_of_nametable {i : Nat} (b : Byte) (hlo : 0x2000 ≤ a.toNat) (hhi : a.toNat < 0x3000)
    (hi : mirrorVram cart.mirroring a = .ok i) :
    ppuMemWrite cart u a b = .ok { u with vram := u.vram.write i b } := by
  rw [ppuMemWrite, if_neg (by omega), if_pos hhi, hi]

theorem ppuMemWrite_of_unmapped {k : FatalKind} (b : Byte) (hlo : 0x2000 ≤ a.toNat) (hhi : a.toNat < 0x3000)
    (hk : mirrorVram cart.mirroring a = .error k) : ppuMemWrite cart u a b = .error k := by
  rw [ppuMemWrite, if_neg (by omega), if_pos hhi, hk]

theorem ppuMemWrite_of_unused (b : Byte) (hlo : 0x3000 ≤ a.toNat) (hhi : a.toNat < 0x3F00) :
    ppuMemWrite cart u a b = .error (.ppuAddrUnused a) := by
  rw [ppuMemWrite, if_neg (by omega), if_neg (by omega), if_pos hhi]

theorem ppuMemWrite_of_palette (b : Byte) (hlo : 0x3F00 ≤ a.toNat) :
    ppuMemWrite cart u a b = .ok { u with palette := u.palette.write (palIndex a) b } := by
  rw [ppuMemWrite, if_neg (by omega), if_neg (by omega), if_neg (by omega)]

end Regions

/-! ### The data port (R364 to R366) -/

/-- A read of the data port below the palette: the byte read goes to the buffer, whose old byte is the answer. -/
theorem memRead_of_dataRegister_buffered {a : Addr} {s : State} {c : Byte} (h : ppuReg a 7)
    (hv : s.ppu.v.toNat < 0x3F00) (hc : ppuMemRead s.cart s.ppu s.ppu.v = .ok c) :
    memRead a s = .ok s.ppu.readBuffer (s.setPpu { incrementV s.ppu with readBuffer := c }) := by
  obtain ⟨hlo, hhi, hr⟩ := h
  simp only [memRead_of_ppu hlo hhi, ppuRegRead, hr, dataRead, hc, if_neg (Nat.not_le.mpr hv)]

/-- A read of the data port in the palette answers at once. -/
theorem memRead_of_dataRegister_palette {a : Addr} {s : State} {c : Byte} (h : ppuReg a 7)
    (hv : 0x3F00 ≤ s.ppu.v.toNat) (hc : ppuMemRead s.cart s.ppu s.ppu.v = .ok c) :
    memRead a s = .ok c (s.setPpu (incrementV s.ppu)) := by
  obtain ⟨hlo, hhi, hr⟩ := h
  simp only [memRead_of_ppu hlo hhi, ppuRegRead, hr, dataRead, hc, if_pos hv]

theorem memRead_of_dataRegister_fatal {a : Addr} {s : State} {k : FatalKind} (h : ppuReg a 7)
    (hk : ppuMemRead s.cart s.ppu s.ppu.v = .error k) : memRead a s = .fatal k s := by
  obtain ⟨hlo, hhi, hr⟩ := h
  simp only [memRead_of_ppu hlo hhi, ppuRegRead, hr, dataRead, hk]

theorem memWrite_of_dataRegister {a : Addr} {b : Byte} {s : State} {u : Ppu} (h : ppuReg a 7)
    (hu : ppuMemWrite s.cart s.ppu s.ppu.v b = .ok u) : memWrite a b s = .ok 0 (s.setPpu (incrementV u)) := by
  obtain ⟨hlo, hhi, hr⟩ := h
  simp only [memWrite_of_ppu hlo hhi, ppuRegWrite, hr, dataWrite, hu]

theorem memWrite_of_dataRegister_fatal {a : Addr} {b : Byte} {s : State} {k : FatalKind} (h : ppuReg a 7)
    (hk : ppuMemWrite s.cart s.ppu s.ppu.v b = .error k) : memWrite a b s = .fatal k s := by
  obtain ⟨hlo, hhi, hr⟩ := h
  simp only [memWrite_of_ppu hlo hhi, ppuRegWrite, hr, dataWrite, hk]

/-- Settles O23: the region of `v` says which byte is read or which fault is raised, and whether it is buffered. -/
theorem dataReadIsBuffered : Obligations.DataReadIsBuffered := by
  intro a s h
  have nametable {i : Nat} (hlo : 0x2000 ≤ s.ppu.v.toNat) (hhi : s.ppu.v.toNat < 0x3000)
      (hi : mirrorVram s.cart.mirroring s.ppu.v = .ok i) :=
    memRead_of_dataRegister_buffered h (by omega) (ppuMemRead_of_nametable hlo hhi hi)
  refine ⟨fun hchr => ?_, fun hlo hhi hm => ?_, fun hlo hhi hm => ?_, fun hlo hhi hm => ?_, fun hlo hhi => ?_,
    fun hpal => ?_⟩
  · exact memRead_of_dataRegister_buffered h (by omega) (ppuMemRead_of_chr hchr)
  · exact nametable hlo hhi (hm ▸ mirrorVram_vertical hlo)
  · exact nametable hlo hhi (hm ▸ mirrorVram_horizontal hlo)
  · exact memRead_of_dataRegister_fatal h (ppuMemRead_of_unmapped hlo hhi (hm ▸ mirrorVram_fourScreen _))
  · exact memRead_of_dataRegister_fatal h (ppuMemRead_of_unused hlo hhi)
  · exact memRead_of_dataRegister_palette h hpal (palIndex_eq hpal ▸ ppuMemRead_of_palette hpal)

/-- Settles O27: the region of `v` says which byte of the PPU's memories is written or which fault is raised. -/
theorem dataWriteIsImmediate : Obligations.DataWriteIsImmediate := by
  intro a b s h
  have nametable {i : Nat} (hlo : 0x2000 ≤ s.ppu.v.toNat) (hhi : s.ppu.v.toNat < 0x3000)
      (hi : mirrorVram s.cart.mirroring s.ppu.v = .ok i) :=
    memWrite_of_dataRegister h (ppuMemWrite_of_nametable b hlo hhi hi)
  refine ⟨fun hchr => ?_, fun hlo hhi hm => ?_, fun hlo hhi hm => ?_, fun hlo hhi hm => ?_, fun hlo hhi => ?_,
    fun hpal => ?_⟩
  · exact memWrite_of_dataRegister h (ppuMemWrite_of_chr b hchr)
  · exact nametable hlo hhi (hm ▸ mirrorVram_vertical hlo)
  · exact nametable hlo hhi (hm ▸ mirrorVram_horizontal hlo)
  · exact memWrite_of_dataRegister_fatal h (ppuMemWrite_of_unmapped b hlo hhi (hm ▸ mirrorVram_fourScreen _))
  · exact memWrite_of_dataRegister_fatal h (ppuMemWrite_of_unused b hlo hhi)
  · exact memWrite_of_dataRegister h (palIndex_eq hpal ▸ ppuMemWrite_of_palette b hpal)

end Sys2Proof.Machine
end

section
/-!
PROOFS. OAM DMA (47_ppu_registers.md R370) for every source page. Where the bytes a DMA reads are known beforehand (RAM,
PRG, page 0x40 with its joypad, the pages above it), `dmaReads_withOamBytes` gives its states; in the register window,
where they are not, the states are followed up to OAM and the read buffer (`WindowAt`).
-/

namespace Sys2Proof.Machine

open Sys2Proof.Claims

/-! ### A DMA as the sequence of its reads -/

theorem writeOnlyRegister_dmaPort : WriteOnlyRegister 0x4014 := .inr (.inr (.inr (.inr (.inr rfl))))

theorem memWrite_of_dmaPort (page : Byte) (s : State) :
    memWrite 0x4014 page s = (dmaFrom 256 0 page s).andThen fun _ t => .ok t.cfg.oamDmaCycles t := rfl

/-- After its first `n` reads a DMA is in the state they leave, with the rest of its bytes to go. -/
theorem dmaFrom_of_reads {page : Byte} {σ : Nat → State} {β : Nat → Byte} {n : Nat}
    (h : DmaReads page n σ β) (m : Nat) :
    dmaFrom (m + n) 0 page (σ 0) = dmaFrom m n page (σ n) := by
  induction n generalizing m with
  | zero => rfl
  | succ n ih =>
    obtain ⟨r, hread, hnext⟩ := h n (Nat.lt_succ_self n)
    calc dmaFrom (m + (n + 1)) 0 page (σ 0)
      _ = dmaFrom (m + 1 + n) 0 page (σ 0) := by rw [Nat.add_right_comm, Nat.add_assoc]
      _ = dmaFrom (m + 1) n page (σ n) := ih (fun i hi => h i (Nat.lt_succ_of_lt hi)) (m + 1)
      _ = dmaFrom m (n + 1) page (σ (n + 1)) := by rw [dmaFrom, hread, hnext]; rfl

/-- No read and no OAM-data write moves the parameters: a DMA charges the cycles of the state it began in. -/
theorem dmaFrom_cfg {n i : Nat} {page : Byte} {s t : State} (h : dmaFrom n i page s = .ok () t) : t.cfg = s.cfg :=
  have hparams := (stable_sameParameters s).toAccessStable
  have ⟨_, hcfg, _⟩ : SameParameters s t :=
    dmaFrom_ok (fun hs hr => hparams.memRead_ok hs hr) (fun b hs => hparams.oamData b hs) ⟨rfl, rfl, rfl⟩ h
  hcfg

theorem memWrite_of_dma_ok {page : Byte} {s t : State} (h : dmaFrom 256 0 page s = .ok () t) :
    memWrite 0x4014 page s = .ok s.cfg.oamDmaCycles t := by
  rw [memWrite_of_dmaPort, h, ← dmaFrom_cfg h]
  rfl

theorem memWrite_of_dmaReads {page : Byte} {σ : Nat → State} {β : Nat → Byte} (h : DmaReads page 256 σ β) :
    memWrite 0x4014 page (σ 0) = .ok (σ 0).cfg.oamDmaCycles (σ 256) :=
  memWrite_of_dma_ok (dmaFrom_of_reads h 0)

theorem memWrite_of_dmaReads_fatal {page : Byte} {σ : Nat → State} {β : Nat → Byte} {n : Nat} {k : FatalKind}
    {t : State} (hn : n < 256) (h : DmaReads page n σ β)
    (hfatal : memRead (hilo page (BitVec.ofNat 8 n)) (σ n) = .fatal k t) :
    memWrite 0x4014 page (σ 0) = .fatal k t := by
  obtain ⟨m, hm⟩ : ∃ m, 256 = m + 1 + n := ⟨255 - n, by omega⟩
  rw [memWrite_of_dmaPort, hm, dmaFrom_of_reads h, dmaFrom, hfatal]
  rfl

/-! ### Storing bytes known beforehand -/

theorem oamAddr_add_zero (a : Byte) : a + BitVec.ofNat 8 0 = a := BitVec.add_zero a

theorem oamAddr_add_succ (a : Byte) (n : Nat) : a + BitVec.ofNat 8 (n + 1) = a + BitVec.ofNat 8 n + 1 := by
  rw [BitVec.ofNat_add, BitVec.add_assoc]
  rfl

/-- After 256 bytes the OAM address is back where it was. -/
theorem oamAddr_add_page (a : Byte) : a + BitVec.ofNat 8 256 = a := BitVec.add_zero a

/-- `OAM` with the first `n` bytes of `β` written from index `a` on, wrapping. -/
def oamBytes (m : Memory) (a : Byte) (β : Nat → Byte) : Nat → Memory
  | 0 => m
  | n + 1 => (oamBytes m a β n).write (a + BitVec.ofNat 8 n).toNat (β n)

theorem toNat_oamIndex (a : Byte) (i : Nat) : (a + BitVec.ofNat 8 i).toNat = (a.toNat + i) % 256 := by
  rw [BitVec.toNat_add, BitVec.toNat_ofNat]
  exact Nat.add_mod_mod _ _ _

/-- No index is written twice by at most 256 bytes. -/
theorem read_oamBytes (m : Memory) (a : Byte) (β : Nat → Byte) {n i : Nat} (hn : n ≤ 256) (hi : i < n) :
    (oamBytes m a β n).read ((a.toNat + i) % 256) = β i := by
  induction n with
  | zero => exact absurd hi (Nat.not_lt_zero i)
  | succ n ih =>
    rw [oamBytes, toNat_oamIndex, Memory.read_write]
    split
    · next heq => rw [show i = n by omega]
    · next hne =>
      have hne' : i ≠ n := fun h => hne (by rw [h])
      exact ih (by omega) (by omega)

/-- `s` after the first `n` bytes of `β` have been written through the OAM data port. -/
def withOamBytes (β : Nat → Byte) (n : Nat) (s : State) : State :=
  { s with
    ppu := { s.ppu with
      oam := oamBytes s.ppu.oam s.ppu.oamAddr β n
      oamAddr := s.ppu.oamAddr + BitVec.ofNat 8 n } }

theorem withOamBytes_zero (β : Nat → Byte) (s : State) : withOamBytes β 0 s = s := by
  rw [withOamBytes, oamAddr_add_zero]
  rfl

theorem withOamByte_withOamBytes (β : Nat → Byte) (n : Nat) (s : State) :
    withOamByte (β n) (withOamBytes β n s) = withOamBytes β (n + 1) s := by
  simp only [withOamBytes, oamAddr_add_succ]
  rfl

theorem withOamBytes_page (β : Nat → Byte) (s : State) :
    withOamBytes β 256 s = { s with ppu := { s.ppu with oam := oamBytes s.ppu.oam s.ppu.oamAddr β 256 } } := by
  rw [withOamBytes, oamAddr_add_page]

/-- A DMA whose reads do not depend on the bytes stored before them: read `i` gives `β i` and does to the rest of the
state what takes `ρ i` to `ρ (i + 1)`. -/
theorem dmaReads_withOamBytes {page : Byte} {n : Nat} {β : Nat → Byte} {ρ : Nat → State}
    (h : ∀ i < n, memRead (hilo page (BitVec.ofNat 8 i)) (withOamBytes β i (ρ i)) =
      .ok (β i) (withOamBytes β i (ρ (i + 1)))) :
    DmaReads page n (fun i => withOamBytes β i (ρ i)) β :=
  fun i hi => ⟨_, h i hi, (withOamByte_withOamBytes β i _).symm⟩

/-- A whole DMA of known bytes, with what its reads do to the rest of the state. -/
theorem dma_knownBytes {page : Byte} {β : Nat → Byte} {ρ : Nat → State}
    (h : ∀ i < 256, memRead (hilo page (BitVec.ofNat 8 i)) (withOamBytes β i (ρ i)) =
      .ok (β i) (withOamBytes β i (ρ (i + 1)))) :
    ∃ oam : Memory,
      memWrite 0x4014 page (ρ 0) =
        .ok (ρ 0).cfg.oamDmaCycles { ρ 256 with ppu := { (ρ 256).ppu with oam := oam } } ∧
      ∀ i < 256, oam.read (((ρ 256).ppu.oamAddr.toNat + i) % 256) = β i := by
  refine ⟨_, ?_, fun i hi => read_oamBytes (ρ 256).ppu.oam (ρ 256).ppu.oamAddr β (Nat.le_refl _) hi⟩
  have hdma := memWrite_of_dmaReads (dmaReads_withOamBytes h)
  rwa [withOamBytes_zero, withOamBytes_page] at hdma

/-! ### RAM and PRG -/

/-- The addresses of one page. -/
theorem toNat_pageAddr (page : Byte) (i : Nat) :
    (hilo page (BitVec.ofNat 8 i)).toNat = 256 * page.toNat + i % 256 := by
  rw [toNat_hilo, BitVec.toNat_ofNat]

/-- The byte of RAM or PRG at offset `i` of a page. -/
def pageByte (s : State) (page : Byte) (i : Nat) : Byte := (storedByte s (hilo page (BitVec.ofNat 8 i))).getD 0

theorem storedByte_pageAddr {page : Byte} (hpage : page.toNat < 0x20 ∨ 0x80 ≤ page.toNat) (s : State) (i : Nat) :
    storedByte s (hilo page (BitVec.ofNat 8 i)) = some (pageByte s page i) := by
  have haddr := toNat_pageAddr page i
  unfold pageByte storedByte
  split
  · rfl
  · rw [if_neg (by omega)]; rfl

/-- The bytes stored before a read are not where it reads. -/
theorem memRead_storedPage {page : Byte} (hpage : page.toNat < 0x20 ∨ 0x80 ≤ page.toNat) (β : Nat → Byte) (s : State)
    (i : Nat) :
    memRead (hilo page (BitVec.ofNat 8 i)) (withOamBytes β i s) = .ok (pageByte s page i) (withOamBytes β i s) :=
  memRead_of_storedByte (s := withOamBytes β i s) (storedByte_pageAddr hpage s i)

/-! ### Pages 0x40 to 0x7F -/

/-- At most two addresses of 0x4000 to 0x7FFF have a device: everywhere else a read gives 0 (R72). -/
theorem memRead_devicePage {page : Byte} {i : Nat} (s : State) (hlo : 0x40 ≤ page.toNat) (hhi : page.toNat < 0x80)
    (hdma : page = 0x40 → i % 256 = 0x14 → s.cfg.strictWriteOnlyRead = false)
    (hjoy : page = 0x40 → i % 256 = 0x16 → s.cfg.joypadPresent = false) :
    memRead (hilo page (BitVec.ofNat 8 i)) s = .ok 0 s := by
  have haddr := toNat_pageAddr page i
  have page40 {k : Nat} (hk : k < 256) (h : hilo page (BitVec.ofNat 8 i) = BitVec.ofNat 16 (0x4000 + k)) :
      page = 0x40 ∧ i % 256 = k := by
    rw [h, BitVec.toNat_ofNat] at haddr
    exact ⟨BitVec.eq_of_toNat_eq (y := 0x40) (show page.toNat = 64 by omega), by omega⟩
  by_cases hport : hilo page (BitVec.ofNat 8 i) = 0x4014
  · obtain ⟨hpage, hi⟩ := page40 (k := 0x14) (by decide) hport
    rw [hport, memRead_of_writeOnlyRegister writeOnlyRegister_dmaPort, writeOnlyRead, hdma hpage hi]
    rfl
  · refine memRead_of_noDevice (by omega) (by omega) hport ?_
    by_cases hpad : hilo page (BitVec.ofNat 8 i) = 0x4016
    · obtain ⟨hpage, hi⟩ := page40 (k := 0x16) (by decide) hpad
      exact .inr (hjoy hpage hi)
    · exact .inl hpad

/-- Every index of `OAM` is an offset from the OAM address, wrapping. -/
theorem forall_oamIndex {p : Nat → Prop} (a : Byte) (h : ∀ i < 256, p ((a.toNat + i) % 256)) : ∀ i < 256, p i := by
  intro i hi
  have ha := a.isLt
  have hwrap : (a.toNat + (i + 256 - a.toNat) % 256) % 256 = i := by omega
  exact hwrap ▸ h _ (Nat.mod_lt _ (by decide))

/-! ### The register window -/

/-- A property, indexed by the bytes done, that each read of a DMA carries on to the next byte holds after the last. -/
theorem dmaFrom_invariant {I : Nat → State → Prop} {page : Byte}
    (hstep : ∀ {i t b r}, I i t → memRead (hilo page (BitVec.ofNat 8 i)) t = .ok b r → I (i + 1) (withOamByte b r))
    {n i : Nat} {s t : State} (hs : I i s) (h : dmaFrom n i page s = .ok () t) : I (i + n) t := by
  induction n generalizing i s with
  | zero => cases h; exact hs
  | succ n ih =>
    rw [dmaFrom, Access.andThen_eq_ok] at h
    obtain ⟨b, r, hread, hrest⟩ := h
    rw [show i + (n + 1) = i + 1 + n by omega]
    exact ih (hstep hs hread) hrest

theorem ppuReg_pageAddr {page : Byte} (hlo : 0x20 ≤ page.toNat) (hhi : page.toNat < 0x40) (i : Nat) :
    ppuReg (hilo page (BitVec.ofNat 8 i)) (i % 8) := by
  rw [ppuReg, toNat_pageAddr]
  omega

/-- A completed read of the data port steps `v` and touches nothing else but the read buffer (R364, R366). -/
theorem memRead_of_dataRegister_ok {a : Addr} {s t : State} {b : Byte} (h : ppuReg a 7)
    (hread : memRead a s = .ok b t) :
    ∃ c, t = s.setPpu { incrementV s.ppu with readBuffer := c } := by
  obtain ⟨hlo, hhi, hr⟩ := h
  simp only [memRead_of_ppu hlo hhi, ppuRegRead, hr] at hread
  split at hread
  · next hdata =>
    cases hread
    obtain rfl | ⟨c, rfl⟩ := ppuMemRead_of_dataRead hdata
    · exact ⟨s.ppu.readBuffer, rfl⟩
    · exact ⟨c, rfl⟩
  · cases hread

theorem statusReadEffect_statusReadEffect (u : Ppu) : statusReadEffect (statusReadEffect u) = statusReadEffect u := by
  have hmask : u.status &&& 0x7F &&& 0x7F = u.status &&& 0x7F := by rw [BitVec.and_assoc, BitVec.and_self]
  simp only [statusReadEffect, hmask]

/-- `s` after `i` bytes of a DMA from the register window: `v` has stepped at each register 7 (R366), and the status has
been read once register 2 is past (R355). OAM and the read buffer are left open. -/
def WindowAt (s : State) (i : Nat) (t : State) : Prop :=
  ∃ buffer oam, t = s.setPpu
    { (if i < 3 then s.ppu else statusReadEffect s.ppu) with
      v := s.ppu.v + BitVec.ofNat 14 (i / 8) * vStep s.ppu
      oamAddr := s.ppu.oamAddr + BitVec.ofNat 8 i
      readBuffer := buffer
      oam := oam }

theorem windowAt_zero (s : State) : WindowAt s 0 s := by
  have hv : s.ppu.v + BitVec.ofNat 14 (0 / 8) * vStep s.ppu = s.ppu.v := by
    rw [Nat.zero_div, BitVec.zero_mul]
    exact BitVec.add_zero _
  refine ⟨s.ppu.readBuffer, s.ppu.oam, ?_⟩
  rw [hv, oamAddr_add_zero]
  rfl

section WindowReads

variable {s t : State} {i : Nat}

/-- The status registers of the window: the first of its reads has the whole effect (R355). -/
theorem WindowAt.statusRead (h : WindowAt s i t) (hi : i % 8 = 2) (b : Byte) :
    WindowAt s (i + 1) (withOamByte b (t.setPpu (statusReadEffect t.ppu))) := by
  obtain ⟨buffer, oam, rfl⟩ := h
  have hcleared : statusReadEffect (if i < 3 then s.ppu else statusReadEffect s.ppu) = statusReadEffect s.ppu := by
    split
    · rfl
    · exact statusReadEffect_statusReadEffect s.ppu
  generalize (if i < 3 then s.ppu else statusReadEffect s.ppu) = u at hcleared ⊢
  have hv : (i + 1) / 8 = i / 8 := by omega
  refine ⟨buffer, oam.write (s.ppu.oamAddr + BitVec.ofNat 8 i).toNat b, ?_⟩
  rw [if_neg (by omega), hv, oamAddr_add_succ, ← hcleared]
  rfl

/-- The data registers of the window, each past the first status register (R366). -/
theorem WindowAt.dataRead (h : WindowAt s i t) (hi : i % 8 = 7) (b c : Byte) :
    WindowAt s (i + 1) (withOamByte b (t.setPpu { incrementV t.ppu with readBuffer := c })) := by
  obtain ⟨buffer, oam, rfl⟩ := h
  have hv : s.ppu.v + BitVec.ofNat 14 ((i + 1) / 8) * vStep s.ppu =
      s.ppu.v + BitVec.ofNat 14 (i / 8) * vStep s.ppu + vStep s.ppu := by
    rw [show (i + 1) / 8 = i / 8 + 1 by omega, BitVec.ofNat_add, BitVec.add_mul, BitVec.one_mul, BitVec.add_assoc]
  refine ⟨c, oam.write (s.ppu.oamAddr + BitVec.ofNat 8 i).toNat b, ?_⟩
  rw [if_neg (by omega), if_neg (by omega), hv, oamAddr_add_succ]
  rfl

/-- The registers of the window whose reads have no effect. -/
theorem WindowAt.plainRead (h : WindowAt s i t) (hstatus : i % 8 ≠ 2) (hdata : i % 8 ≠ 7) (b : Byte) :
    WindowAt s (i + 1) (withOamByte b t) := by
  obtain ⟨buffer, oam, rfl⟩ := h
  have hv : (i + 1) / 8 = i / 8 := by omega
  have hpast : i + 1 < 3 ↔ i < 3 := by omega
  refine ⟨buffer, oam.write (s.ppu.oamAddr + BitVec.ofNat 8 i).toNat b, ?_⟩
  simp only [hv, hpast, oamAddr_add_succ]
  rfl

end WindowReads

theorem WindowAt.read {page : Byte} (hlo : 0x20 ≤ page.toNat) (hhi : page.toNat < 0x40) {s t r : State} {i : Nat}
    {b : Byte} (h : WindowAt s i t) (hread : memRead (hilo page (BitVec.ofNat 8 i)) t = .ok b r) :
    WindowAt s (i + 1) (withOamByte b r) := by
  have hreg := ppuReg_pageAddr hlo hhi i
  by_cases hstatus : i % 8 = 2
  · rw [memRead_of_statusRegister (hstatus ▸ hreg)] at hread
    cases hread
    exact h.statusRead hstatus _
  by_cases hdata : i % 8 = 7
  · obtain ⟨c, rfl⟩ := memRead_of_dataRegister_ok (hdata ▸ hreg) hread
    exact h.dataRead hdata b c
  · obtain ⟨_, hbelow, hnumber⟩ := hreg
    have hkept : r = t := memRead_keeps_state (fun ⟨_, _, h2⟩ => hstatus (hnumber.symm.trans h2))
      (fun ⟨_, _, h7⟩ => hdata (hnumber.symm.trans h7)) (.inl fun hpad => absurd hbelow (by rw [hpad]; decide)) hread
    exact hkept ▸ h.plainRead hstatus hdata b

/-- A DMA from the register window that completes: 32 data accesses and a status read. -/
theorem windowAt_dma {page : Byte} (hlo : 0x20 ≤ page.toNat) (hhi : page.toNat < 0x40) {s t : State}
    (h : dmaFrom 256 0 page s = .ok () t) : WindowAt s 256 t :=
  dmaFrom_invariant (I := WindowAt s) (fun hw hr => hw.read hlo hhi hr) (windowAt_zero s) h

theorem WindowAt.page {s t : State} (h : WindowAt s 256 t) :
    t = { s with
      ppu := { s.ppu with
        v := s.ppu.v + if s.ppu.ctrl.getLsbD 2 then 1024 else 32
        status := s.ppu.status &&& 0x7F
        scrollLatch := .first
        addrLatch := .high
        readBuffer := t.ppu.readBuffer
        oam := t.ppu.oam } } := by
  obtain ⟨buffer, oam, rfl⟩ := h
  have hv : BitVec.ofNat 14 (256 / 8) * vStep s.ppu = if s.ppu.ctrl.getLsbD 2 then 1024 else 32 := by
    rw [vStep]
    split <;> rfl
  rw [hv, oamAddr_add_page]
  rfl

theorem memWrite_of_dma_window {page : Byte} (hlo : 0x20 ≤ page.toNat) (hhi : page.toNat < 0x40) {s t : State} {n : Nat}
    (h : memWrite 0x4014 page s = .ok n t) : n = s.cfg.oamDmaCycles ∧ WindowAt s 256 t := by
  rw [memWrite_of_dmaPort, Access.andThen_eq_ok] at h
  obtain ⟨_, u, hdma, hend⟩ := h
  cases hend
  exact ⟨congrArg _ (dmaFrom_cfg hdma), windowAt_dma hlo hhi hdma⟩

/-- Under STRICT_WRITE_ONLY_READ a DMA faults at such a register as any read does (log 19). -/
theorem memRead_of_writeOnlyRegister_strict {a : Addr} {s : State} (h : WriteOnlyRegister a)
    (hstrict : s.cfg.strictWriteOnlyRead = true) :
    memRead a s = .fatal (.writeOnlyRead a) s := by
  rw [memRead_of_writeOnlyRegister h, writeOnlyRead, if_pos hstrict]

/-! ### Page 0x40 with a joypad -/

theorem memRead_of_joypad {s : State} (h : s.cfg.joypadPresent = true) :
    memRead 0x4016 s = .ok (joypadAnswer s.joy) (s.setJoy (joypadReadEffect s.joy)) := if_pos h

/-- What a DMA from page 0x40 reads, with `b` the joypad's byte. -/
def joypadPageByte (b : Byte) (i : Nat) : Byte := if i = 0x16 then b else 0

/-- The rest of the state before read `i` of that DMA: the joypad's read takes `s` to `t`. -/
def joypadPageState (s t : State) (i : Nat) : State := if i ≤ 0x16 then s else t

theorem memRead_joypadPage {s : State} (hjoy : s.cfg.joypadPresent = true) (hstrict : s.cfg.strictWriteOnlyRead = false)
    (β : Nat → Byte) {i : Nat} (hi : i < 256) :
    let t := s.setJoy (joypadReadEffect s.joy)
    memRead (hilo 0x40 (BitVec.ofNat 8 i)) (withOamBytes β i (joypadPageState s t i)) =
      .ok (joypadPageByte (joypadAnswer s.joy) i) (withOamBytes β i (joypadPageState s t (i + 1))) := by
  intro t
  by_cases hpad : i = 0x16
  · subst hpad
    exact memRead_of_joypad (s := withOamBytes β 0x16 s) hjoy
  · have hsame : joypadPageState s t (i + 1) = joypadPageState s t i := by
      unfold joypadPageState
      split
      · rw [if_pos (by omega)]
      · rw [if_neg (by omega)]
    have hquiet : (joypadPageState s t i).cfg.strictWriteOnlyRead = false := by
      unfold joypadPageState
      split <;> exact hstrict
    rw [hsame, joypadPageByte, if_neg hpad]
    exact memRead_devicePage _ (by decide) (by decide) (fun _ _ => hquiet) fun _ h => absurd h (by omega)

/-- Settles O28: for known bytes by `dma_knownBytes`, for the register window by `WindowAt`, and for a fatal read by the
reads before it. -/
theorem dmaCopiesAPage : Obligations.DmaCopiesAPage := by
  intro page s
  refine ⟨?_, ?_, fun hpage => ?_, fun hlo hhi hstrict => ?_, fun n t hlo hhi h => ?_, fun hlo hhi hquiet => ?_,
    fun hpage hstrict => ?_, fun hpage hjoy hstrict b t hread => ?_⟩
  · rintro σ β rfl hreads
    exact memWrite_of_dmaReads hreads
  · rintro σ β n k t rfl hn hreads hfatal
    exact memWrite_of_dmaReads_fatal hn hreads hfatal
  · obtain ⟨oam, hdma, hbytes⟩ := dma_knownBytes (ρ := fun _ => s) fun i _ =>
      memRead_storedPage hpage (pageByte s page) s i
    exact ⟨oam, hdma, fun i hi => (storedByte_pageAddr hpage s i).trans (congrArg some (hbytes i hi).symm)⟩
  · exact memWrite_of_dmaReads_fatal (σ := fun _ => s) (β := fun _ => 0) (n := 0) (by decide)
      (fun _ h => absurd h (Nat.not_lt_zero _))
      (memRead_of_writeOnlyRegister_strict (.inl (ppuReg_pageAddr hlo hhi 0)) hstrict)
  · obtain ⟨hn, hwindow⟩ := memWrite_of_dma_window hlo hhi h
    exact ⟨hn, hwindow.page⟩
  · obtain ⟨oam, hdma, hbytes⟩ := dma_knownBytes (β := fun _ => 0) (ρ := fun _ => s) fun _ _ =>
      memRead_devicePage _ hlo hhi (fun h _ => (hquiet h).2) fun h _ => (hquiet h).1
    exact ⟨oam, hdma, forall_oamIndex s.ppu.oamAddr hbytes⟩
  · subst hpage
    have hreads : DmaReads 0x40 20 (fun i => withOamBytes (fun _ => 0) i s) fun _ => 0 :=
      dmaReads_withOamBytes (ρ := fun _ => s) fun i hi =>
        memRead_devicePage _ (by decide) (by decide) (fun _ h => absurd h (by omega)) fun _ h => absurd h (by omega)
    have hdma := memWrite_of_dmaReads_fatal (by decide) hreads
      (memRead_of_writeOnlyRegister_strict writeOnlyRegister_dmaPort hstrict)
    rw [withOamBytes_zero] at hdma
    exact ⟨_, hdma, fun i hi => read_oamBytes _ _ (fun _ => 0) (by decide) hi⟩
  · subst hpage
    rw [memRead_of_joypad hjoy] at hread
    cases hread
    exact dma_knownBytes (ρ := joypadPageState s _) fun i hi => memRead_joypadPage hjoy hstrict _ hi

end Sys2Proof.Machine
end

section
/-!
PROOFS. PPU time of 48_ppu_timing.md: one dot and its events (R391, R393, R394), a stretch of dots between two events and a
whole frame (R390, R401), `Tick` (R396, R398), and what no step breaks: the PPU's place on the cycle count (R397) and the
period of vblank (R393 to R395, R399).
-/

namespace Sys2Proof.Machine

open Sys2Proof.Claims

theorem framePosition_eq (u : Ppu) : framePosition u = u.scanline * 341 + u.dot := rfl

theorem dotsPerFrame_eq : dotsPerFrame = 89342 := rfl

/-! ### Positions -/

/-- The PPU with its counters at position `p` of the frame. -/
def Ppu.atPosition (u : Ppu) (p : Nat) : Ppu := { u with scanline := p / 341, dot := p % 341 }

theorem Ppu.atPosition_framePosition {u : Ppu} (h : u.inRange) : u.atPosition (framePosition u) = u := by
  obtain ⟨_, hdot⟩ := h
  have hl : framePosition u / 341 = u.scanline := by rw [framePosition_eq]; omega
  have hd : framePosition u % 341 = u.dot := by rw [framePosition_eq]; omega
  rw [atPosition, hl, hd]

theorem framePosition_atPosition (u : Ppu) (p : Nat) : framePosition (u.atPosition p) = p :=
  Nat.div_add_mod' p 341

theorem Ppu.atPosition_inRange (u : Ppu) {p : Nat} (hp : p < 89342) : (u.atPosition p).inRange := by
  constructor
  · show p / 341 ≤ 261
    omega
  · show p % 341 ≤ 340
    omega

/-! ### One dot -/

/-- Settles O33: the four clauses are the four cases of `dotAdvance_cases`, told apart by the position left. -/
theorem dotAdvanceAndItsEvents : Obligations.DotAdvanceAndItsEvents := by
  intro u hline hdot
  obtain ⟨hp, e⟩ | ⟨hp, e⟩ | ⟨hp, hp', hd, e⟩ | ⟨hp, hp', hd, e⟩ := dotAdvance_cases u ⟨hline, hdot⟩
  · rw [framePosition_eq] at hp
    exact ⟨fun _ _ => e, fun _ _ => by omega, fun _ _ => by omega, fun _ _ => by omega⟩
  · rw [framePosition_eq] at hp
    exact ⟨fun _ _ => by omega, fun _ _ => e, fun _ _ => by omega, fun _ _ => by omega⟩
  · rw [framePosition_eq] at hp hp'
    exact ⟨fun _ _ => by omega, fun _ _ => by omega, fun _ _ => by omega, fun _ _ => e⟩
  · rw [framePosition_eq] at hp hp'
    exact ⟨fun _ _ => by omega, fun _ _ => by omega, fun _ _ => e, fun _ _ => by omega⟩

/-- A dot moves to the next position, with vblank onset on leaving 82181 and the frame wrap on leaving 89341. -/
theorem dotAdvance_events {u : Ppu} (h : u.inRange) :
    (framePosition u = 82181 ∧ dotAdvance u = vblankOnset (u.atPosition 82182)) ∨
    (framePosition u = 89341 ∧ dotAdvance u = frameWrap (u.atPosition 0)) ∨
    (framePosition u ≠ 82181 ∧ framePosition u ≠ 89341 ∧ dotAdvance u = u.atPosition (framePosition u + 1)) := by
  have hlt : framePosition u < 89342 := by
    obtain ⟨_, _⟩ := h
    rw [framePosition_eq]
    omega
  have hat := Ppu.atPosition_framePosition (dotAdvance_inRange h)
  rw [dotAdvance_position h, dotsPerFrame_eq] at hat
  obtain ⟨hp, e⟩ | ⟨hp, e⟩ | ⟨hp, hp', _, e⟩ | ⟨hp, hp', _, e⟩ := dotAdvance_cases u h
  · rw [hp, e] at hat
    exact .inl ⟨hp, e.trans hat.symm⟩
  · rw [hp, e] at hat
    exact .inr (.inl ⟨hp, e.trans hat.symm⟩)
  · rw [Nat.mod_eq_of_lt (by omega), e] at hat
    exact .inr (.inr ⟨hp, hp', e.trans hat.symm⟩)
  · rw [Nat.mod_eq_of_lt (by omega), e] at hat
    exact .inr (.inr ⟨hp, hp', e.trans hat.symm⟩)

/-! ### Any number of dots -/

/-- Dots move the counters along the frame, and change nothing else but the status and the request. -/
theorem advanceDots_eq (n : Nat) {u : Ppu} (h : u.inRange) :
    advanceDots n u =
      { u.atPosition ((framePosition u + n) % 89342) with
        status := (advanceDots n u).status
        pendingNmi := (advanceDots n u).pendingNmi } := by
  have hat := Ppu.atPosition_framePosition (advanceDots_inRange n h)
  rw [advanceDots_position n h, dotsPerFrame_eq] at hat
  obtain ⟨a, b, c, d, e⟩ := advanceDots_frame n u
  rw [e] at hat ⊢
  exact hat.symm

/-- The `n` dots from position `p` reach neither vblank onset nor the frame wrap. -/
def Eventless (p n : Nat) : Prop := p + n ≤ 82181 ∨ (82182 ≤ p ∧ p + n ≤ 89341)

/-- Without an event, dots leave the status and the request too. -/
theorem advanceDots_of_eventless {n : Nat} {u : Ppu} (h : u.inRange) (hn : Eventless (framePosition u) n) :
    advanceDots n u = u.atPosition (framePosition u + n) := by
  induction n generalizing u with
  | zero => rw [advanceDots, Nat.add_zero, Ppu.atPosition_framePosition h]
  | succ n ih =>
    unfold Eventless at hn
    obtain ⟨hp, _⟩ | ⟨hp, _⟩ | ⟨_, _, e⟩ := dotAdvance_events h
    · omega
    · omega
    · have hnext := ih (dotAdvance_inRange h)
      rw [e, framePosition_atPosition, Nat.add_assoc, Nat.add_comm 1 n] at hnext
      rw [advanceDots, e]
      exact hnext (by unfold Eventless; omega)

/-! ### A frame -/

/-- The PPU after vblank onset, at position `p` (R393). -/
def Ppu.inVblank (u : Ppu) (p : Nat) : Ppu := vblankOnset (u.atPosition p)

theorem Ppu.inVblank_vblank (u : Ppu) (p : Nat) : (u.inVblank p).status.getLsbD 7 = true := by
  have hset : ∀ b : Byte, ((b ||| 0x80) &&& 0xBF).getLsbD 7 = true := by decide
  exact hset u.status

section Frame

variable {u : Ppu} (hline : u.scanline = 0) (hdot : u.dot = 0)

include hline hdot

theorem frameStart_inRange : u.inRange := ⟨by omega, by omega⟩

theorem frameStart_position : framePosition u = 0 := by rw [framePosition_eq, hline, hdot]

theorem advanceDots_beforeVblank {n : Nat} (hn : n < 82182) : advanceDots n u = u.atPosition n := by
  have h := advanceDots_of_eventless (n := n) (frameStart_inRange hline hdot)
  rw [frameStart_position hline hdot, Nat.zero_add] at h
  exact h (.inl (by omega))

/-- The dot that leaves position 82181 is vblank onset; no event follows in the frame. -/
theorem advanceDots_inVblank {n : Nat} (hlo : 82182 ≤ n) (hhi : n < 89342) : advanceDots n u = u.inVblank n := by
  have honset : dotAdvance (u.atPosition 82181) = u.inVblank 82182 := by
    have hp := framePosition_atPosition u 82181
    obtain ⟨_, e⟩ | ⟨hp', _⟩ | ⟨hp', _⟩ := dotAdvance_events (u.atPosition_inRange (p := 82181) (by omega))
    · exact e
    · omega
    · omega
  obtain ⟨k, rfl⟩ := Nat.exists_eq_add_of_le hlo
  have hk : 82182 + k = 82181 + (k + 1) := by omega
  have hp : framePosition (u.inVblank 82182) = 82182 := framePosition_atPosition u 82182
  have hrest := advanceDots_of_eventless (n := k) (u := u.inVblank 82182) (u.atPosition_inRange (by omega))
  rw [hp] at hrest
  calc advanceDots (82182 + k) u
      = advanceDots (k + 1) (advanceDots 82181 u) := by rw [hk, advanceDots_add]
    _ = advanceDots k (u.inVblank 82182) := by
        rw [advanceDots_beforeVblank hline hdot (by omega), advanceDots, honset]
    _ = u.inVblank (82182 + k) := hrest (.inr ⟨by omega, by omega⟩)

/-- The dot that leaves position 89341 is the frame wrap, which withdraws what vblank onset set. -/
theorem advanceDots_frameEnd : advanceDots 89342 u = frameWrap (u.atPosition 0) := by
  have hbits : ∀ b : Byte, (b ||| 0x80) &&& 0xBF &&& 0x3F = b &&& 0x3F := by decide
  have hwrap : dotAdvance (u.inVblank 89341) = frameWrap ((u.inVblank 89341).atPosition 0) := by
    have hp : framePosition (u.inVblank 89341) = 89341 := framePosition_atPosition u 89341
    obtain ⟨hp', _⟩ | ⟨_, e⟩ | ⟨_, hp', _⟩ :=
      dotAdvance_events (u := u.inVblank 89341) (u.atPosition_inRange (by omega))
    · omega
    · exact e
    · omega
  have hstatus : (u.inVblank 89341).status &&& 0x3F = u.status &&& 0x3F := hbits u.status
  calc advanceDots 89342 u
      = dotAdvance (advanceDots 89341 u) := advanceDots_add 89341 1 u
    _ = frameWrap ((u.inVblank 89341).atPosition 0) := by
        rw [advanceDots_inVblank hline hdot (by omega) (by omega), hwrap]
    _ = frameWrap (u.atPosition 0) := by
        rw [frameWrap, Ppu.atPosition, hstatus]
        rfl

end Frame

/-- Settles O34: up to vblank onset, in vblank, and the wrap. -/
theorem frameRaisesVblankOnce : Obligations.FrameRaisesVblankOnce := by
  intro u hline hdot hrequest hvblank
  refine ⟨fun n hn => ?_, fun n hlo hhi => ?_, ?_⟩
  · rw [advanceDots_beforeVblank hline hdot hn]
    exact ⟨hrequest, hvblank⟩
  · rw [advanceDots_inVblank hline hdot hlo hhi]
    refine ⟨?_, u.inVblank_vblank n⟩
    show (u.pendingNmi || u.ctrl.getLsbD 7) = _
    rw [hrequest, Bool.false_or]
  · rw [advanceDots_frameEnd hline hdot, ← frameStart_position hline hdot,
      Ppu.atPosition_framePosition (frameStart_inRange hline hdot), frameWrap, ← hrequest]

/-! ### `Tick` -/

theorem repeat_dotAdvance (n : Nat) (u : Ppu) : Nat.repeat dotAdvance n u = advanceDots n u := by
  induction n with
  | zero => rfl
  | succ n ih => rw [Nat.repeat, ih, advanceDots_add n 1]; rfl

theorem advanceDots_tick_tick (m n : Nat) (u : Ppu) :
    advanceDots (3 * n) (advanceDots (3 * m) u) = advanceDots (3 * (m + n)) u := by
  rw [← advanceDots_add, Nat.mul_add]

/-- Settles O35: `Tick` is `3n` dots of the PPU, which move it along the frame and add up. -/
theorem tickAdvancesThreeDotsPerCycle : Obligations.TickAdvancesThreeDotsPerCycle := by
  constructor
  · intro n s
    exact ⟨(repeat_dotAdvance (3 * n) s.ppu).symm, rfl, rfl⟩
  · intro m n s hline hdot
    exact ⟨advanceDots_eq (3 * n) ⟨hline, hdot⟩, advanceDots_tick_tick m n s.ppu, Nat.add_assoc _ _ _⟩

/-! ### What an access leaves of the PPU's time -/

/-- `w` has the counters, the status and the request of `u`. -/
def Ppu.SameTiming (u w : Ppu) : Prop :=
  w.scanline = u.scanline ∧ w.dot = u.dot ∧ w.status = u.status ∧ w.pendingNmi = u.pendingNmi

theorem sameTiming_dataRead {cart : Cartridge} {u w : Ppu} {b : Byte} (h : dataRead cart u = .ok (b, w)) :
    u.SameTiming w := by
  obtain rfl | ⟨_, rfl⟩ := ppuMemRead_of_dataRead h
  · exact ⟨rfl, rfl, rfl, rfl⟩
  · exact ⟨rfl, rfl, rfl, rfl⟩

theorem sameTiming_dataWrite {cart : Cartridge} {u w : Ppu} {b : Byte} (h : dataWrite cart b u = .ok w) :
    u.SameTiming w := by
  obtain rfl | ⟨_, _, rfl⟩ | rfl := dataWrite_ok h
  · exact ⟨rfl, rfl, rfl, rfl⟩
  · exact ⟨rfl, rfl, rfl, rfl⟩
  · exact ⟨rfl, rfl, rfl, rfl⟩

theorem sameTiming_scrollWrite (b : Byte) (u : Ppu) : u.SameTiming (scrollWrite b u) := by
  unfold scrollWrite
  split
  · exact ⟨rfl, rfl, rfl, rfl⟩
  · exact ⟨rfl, rfl, rfl, rfl⟩

theorem sameTiming_addressWrite (b : Byte) (u : Ppu) : u.SameTiming (addressWrite b u) := by
  unfold addressWrite
  split
  · exact ⟨rfl, rfl, rfl, rfl⟩
  · exact ⟨rfl, rfl, rfl, rfl⟩

/-! ### The schedule -/

theorem ppuOnSchedule_setPpu {s : State} {u : Ppu} (hu : s.ppu.SameTiming u) (h : PpuOnSchedule s) :
    PpuOnSchedule (s.setPpu u) := by
  obtain ⟨hline, hdot, _, _⟩ := hu
  simpa only [PpuOnSchedule, State.setPpu_ppu, State.setPpu_cycles, hline, hdot] using h

/-- A `Tick` of `n` cycles moves the position by `3n` dots modulo the frame, as it moves the cycle count by `n`. -/
theorem ppuOnSchedule_tick (n : Nat) {s : State} (h : PpuOnSchedule s) : PpuOnSchedule (tick n s) := by
  obtain ⟨hline, hdot, hpos⟩ := h
  have hrange : s.ppu.inRange := ⟨hline, hdot⟩
  obtain ⟨hline', hdot'⟩ := advanceDots_inRange (3 * n) hrange
  refine ⟨hline', hdot', ?_⟩
  calc framePosition (advanceDots (3 * n) s.ppu)
      = (framePosition s.ppu + 3 * n) % 89342 := advanceDots_position (3 * n) hrange
    _ = (3 * s.cycles % 89342 + 3 * n) % 89342 := by rw [framePosition_eq, hpos]
    _ = 3 * (s.cycles + n) % 89342 := by rw [Nat.mod_add_mod, Nat.mul_add]

/-- Only `Tick` moves the counters or counts cycles. -/
theorem stable_ppuOnSchedule : Stable PpuOnSchedule where
  ram _ _ _ h := h
  statusRead h := h
  dataRead hr h := ppuOnSchedule_setPpu (sameTiming_dataRead hr) h
  control _ h := h
  mask _ h := h
  oamAddr _ h := h
  oamData _ h := h
  scroll b h := ppuOnSchedule_setPpu (sameTiming_scrollWrite b _) h
  address b h := ppuOnSchedule_setPpu (sameTiming_addressWrite b _) h
  dataWrite hw h := ppuOnSchedule_setPpu (sameTiming_dataWrite hw) h
  joyRead h := h
  joyWrite _ h := h
  regs _ _ _ _ _ _ _ h := h
  flag _ _ _ _ h := h
  restored _ h := h
  request h := h
  tick n h := ppuOnSchedule_tick n h

/-- Settles O13: being on schedule is a stable property. -/
theorem stepKeepsThePpuOnSchedule : Obligations.StepKeepsThePpuOnSchedule :=
  fun _ _ h ht => stable_ppuOnSchedule.step h ht

/-! ### The period of vblank -/

/-- `VblankInPeriod`, of the PPU alone. -/
def Ppu.VblankTimely (u : Ppu) : Prop :=
  u.scanline ≤ 261 ∧ u.dot ≤ 340 ∧ (u.status.getLsbD 7 = true ∨ u.pendingNmi = true → 82182 ≤ framePosition u)

theorem Ppu.SameTiming.vblankTimely {u w : Ppu} (hw : u.SameTiming w) (h : u.VblankTimely) : w.VblankTimely := by
  obtain ⟨hline, hdot, hstatus, hrequest⟩ := hw
  simpa only [VblankTimely, framePosition, hline, hdot, hstatus, hrequest] using h

/-- A mask without bit 7 clears vblank. -/
theorem vblank_and_eq_false (b : Byte) {m : Byte} (hm : m.getLsbD 7 = false) : (b &&& m).getLsbD 7 = false := by
  rw [BitVec.getLsbD_and, hm, Bool.and_false]

/-- A status read clears vblank (R355). -/
theorem Ppu.VblankTimely.statusRead {u : Ppu} (h : u.VblankTimely) : (statusReadEffect u).VblankTimely := by
  obtain ⟨hline, hdot, hperiod⟩ := h
  have hclear : (u.status &&& 0x7F).getLsbD 7 = false := vblank_and_eq_false u.status rfl
  refine ⟨hline, hdot, ?_⟩
  rintro (hvblank | hrequest)
  · exact absurd (hclear.symm.trans hvblank) Bool.false_ne_true
  · exact hperiod (.inr hrequest)

/-- A Control write raises the request only while vblank is set (R352, R399). -/
theorem Ppu.VblankTimely.controlWrite {u : Ppu} (b : Byte) (h : u.VblankTimely) :
    (controlWrite b u).VblankTimely := by
  obtain ⟨hline, hdot, hperiod⟩ := h
  refine ⟨hline, hdot, ?_⟩
  rintro (hvblank | hrequest)
  · exact hperiod (.inl hvblank)
  · obtain hold | hraised := Bool.or_eq_true_iff.mp hrequest
    · exact hperiod (.inr hold)
    · exact hperiod (.inl (Bool.and_eq_true_iff.mp hraised).2)

/-- Clearing the request raises nothing. -/
theorem Ppu.VblankTimely.requestCleared {u : Ppu} (h : u.VblankTimely) :
    ({ u with pendingNmi := false } : Ppu).VblankTimely := by
  obtain ⟨hline, hdot, hperiod⟩ := h
  refine ⟨hline, hdot, ?_⟩
  rintro (hvblank | hrequest)
  · exact hperiod (.inl hvblank)
  · exact absurd hrequest Bool.false_ne_true

/-- Vblank onset reaches position 82182, the frame wrap clears both bits, and any other dot of the period stays in
it. -/
theorem Ppu.VblankTimely.dotAdvance {u : Ppu} (h : u.VblankTimely) : (dotAdvance u).VblankTimely := by
  obtain ⟨hline, hdot, hperiod⟩ := h
  have hrange : u.inRange := ⟨hline, hdot⟩
  obtain ⟨hline', hdot'⟩ := dotAdvance_inRange hrange
  refine ⟨hline', hdot', fun hset => ?_⟩
  obtain ⟨_, e⟩ | ⟨_, e⟩ | ⟨_, _, e⟩ := dotAdvance_events hrange
  · rw [e]
    exact Nat.le_of_eq (framePosition_atPosition u 82182).symm
  · rw [e] at hset
    have hclear : (u.status &&& 0x3F).getLsbD 7 = false := vblank_and_eq_false u.status rfl
    obtain hvblank | hrequest := hset
    · exact absurd (hclear.symm.trans hvblank) Bool.false_ne_true
    · exact absurd hrequest Bool.false_ne_true
  · rw [e] at hset ⊢
    rw [framePosition_atPosition]
    exact Nat.le_succ_of_le (hperiod hset)

theorem Ppu.VblankTimely.advanceDots {u : Ppu} (n : Nat) (h : u.VblankTimely) : (advanceDots n u).VblankTimely :=
  advanceDots_keeps (I := Ppu.VblankTimely) (fun _ hu => hu.dotAdvance) n h

/-- Status reads, Control writes, the poll and `Tick` alone write the status, the request or the counters. -/
theorem stable_vblankInPeriod : Stable VblankInPeriod where
  ram _ _ _ h := h
  statusRead h := Ppu.VblankTimely.statusRead h
  dataRead hr h := (sameTiming_dataRead hr).vblankTimely h
  control b h := Ppu.VblankTimely.controlWrite b h
  mask _ h := h
  oamAddr _ h := h
  oamData _ h := h
  scroll b h := (sameTiming_scrollWrite b _).vblankTimely h
  address b h := (sameTiming_addressWrite b _).vblankTimely h
  dataWrite hw h := (sameTiming_dataWrite hw).vblankTimely h
  joyRead h := h
  joyWrite _ h := h
  regs _ _ _ _ _ _ _ h := h
  flag _ _ _ _ h := h
  restored _ h := h
  request h := Ppu.VblankTimely.requestCleared h
  tick n h := Ppu.VblankTimely.advanceDots (3 * n) h

/-- Settles O14: keeping vblank and the request in their period is a stable property. -/
theorem stepKeepsVblankInItsPeriod : Obligations.StepKeepsVblankInItsPeriod :=
  fun _ _ h ht => stable_vblankInPeriod.step h ht

end Sys2Proof.Machine
end

section
/-!
PROOFS. The undocumented instructions of 45_undocumented.md. The combined read-modify-writes (R313 to R318) have the shape of
`modifies_of_rmwOp`, and each of their two halves is one of the equations of the documented instructions; the immediate forms
and LAS (R319 to R324) get an equation each, and a row of a statement is then an evaluation of its opcode's record.
-/

namespace Sys2Proof.Machine

open Sys2Proof.Claims

/-! ### Combined read-modify-writes (R313 to R318) -/

theorem orA_eq (m : Byte) (s : State) : orA m s = loadedA (s.a ||| m) s := loadA_eq (s.a ||| m) s

theorem andA_eq (m : Byte) (s : State) : andA m s = loadedA (s.a &&& m) s := loadA_eq (s.a &&& m) s

theorem eorA_eq (m : Byte) (s : State) : eorA m s = loadedA (s.a ^^^ m) s := loadA_eq (s.a ^^^ m) s

/-- Settles O48: for each mnemonic the equation of its modification and that of its action on A, and the records of the 42
opcodes. -/
theorem combinedReadModifyWrites : Obligations.CombinedReadModifyWrites := by
  intro b w
  have dcp {i : Instr} {m : MemMode} (op : Byte)
      (h : ∀ s, exec i s = rmwOp op decByte (fun r s => compareWith s.a r s) m s) :=
    modifies_of_rmwOp (g' := fun r s => compared s.a r s) op h (fun _ _ => rfl) (fun r s => compareWith_eq s.a r s)
      (fun _ _ => rfl) fun _ _ => rfl
  have isb {i : Instr} {m : MemMode} (op : Byte) (h : ∀ s, exec i s = rmwOp op incByte subtractWithCarry m s) :=
    modifies_of_rmwOp (g' := fun r s => added (255 - r) s) op h (fun _ _ => rfl) subtractWithCarry_eq
      (fun _ _ => rfl) fun _ _ => rfl
  have slo {i : Instr} {m : MemMode} (op : Byte) (h : ∀ s, exec i s = rmwOp op aslByte orA m s) :=
    modifies_of_rmwOp (g' := fun r s => loadedA (s.a ||| r) s) op h aslByte_eq orA_eq (fun _ _ => rfl) fun _ _ => rfl
  have rla {i : Instr} {m : MemMode} (op : Byte) (h : ∀ s, exec i s = rmwOp op rolByte andA m s) :=
    modifies_of_rmwOp (g' := fun r s => loadedA (s.a &&& r) s) op h rolByte_eq andA_eq (fun _ _ => rfl) fun _ _ => rfl
  have sre {i : Instr} {m : MemMode} (op : Byte) (h : ∀ s, exec i s = rmwOp op lsrByte eorA m s) :=
    modifies_of_rmwOp (g' := fun r s => loadedA (s.a ^^^ r) s) op h lsrByte_eq eorA_eq (fun _ _ => rfl) fun _ _ => rfl
  have rra {i : Instr} {m : MemMode} (op : Byte) (h : ∀ s, exec i s = rmwOp op rorByte addWithCarry m s) :=
    modifies_of_rmwOp op h rorByte_eq addWithCarry_eq (fun _ _ => rfl) fun _ _ => rfl
  exact ⟨dcp 0xC7 fun _ => rfl, dcp 0xD7 fun _ => rfl, dcp 0xCF fun _ => rfl, dcp 0xDF fun _ => rfl,
    dcp 0xDB fun _ => rfl, dcp 0xC3 fun _ => rfl, dcp 0xD3 fun _ => rfl,
    isb 0xE7 fun _ => rfl, isb 0xF7 fun _ => rfl, isb 0xEF fun _ => rfl, isb 0xFF fun _ => rfl,
    isb 0xFB fun _ => rfl, isb 0xE3 fun _ => rfl, isb 0xF3 fun _ => rfl,
    slo 0x07 fun _ => rfl, slo 0x17 fun _ => rfl, slo 0x0F fun _ => rfl, slo 0x1F fun _ => rfl,
    slo 0x1B fun _ => rfl, slo 0x03 fun _ => rfl, slo 0x13 fun _ => rfl,
    rla 0x27 fun _ => rfl, rla 0x37 fun _ => rfl, rla 0x2F fun _ => rfl, rla 0x3F fun _ => rfl,
    rla 0x3B fun _ => rfl, rla 0x23 fun _ => rfl, rla 0x33 fun _ => rfl,
    sre 0x47 fun _ => rfl, sre 0x57 fun _ => rfl, sre 0x4F fun _ => rfl, sre 0x5F fun _ => rfl,
    sre 0x5B fun _ => rfl, sre 0x43 fun _ => rfl, sre 0x53 fun _ => rfl,
    rra 0x67 fun _ => rfl, rra 0x77 fun _ => rfl, rra 0x6F fun _ => rfl, rra 0x7F fun _ => rfl,
    rra 0x7B fun _ => rfl, rra 0x63 fun _ => rfl, rra 0x73 fun _ => rfl⟩

/-! ### Immediates and LAS (R319 to R324) -/

theorem andCopyingCarry_eq (m : Byte) (s : State) : andCopyingCarry m s = anced m s := by
  rw [andCopyingCarry, andA_eq, getLsbD_seven]
  rfl

/-- ALR's second half is LSR's: it shifts the byte that AND gives. -/
theorem andShiftRight_eq (m : Byte) (s : State) : andShiftRight m s = alred m s := by
  simp only [alred, ← lsrByte_eq]
  exact congrArg (State.setP (s.setA _)) (znFlags_eq_zn _ _)

/-- ARR's second half is ROR's, of which it keeps the byte. -/
theorem andRotateRight_eq (m : Byte) (s : State) : andRotateRight m s = arred m s := by
  simp only [arred, ← rorByte_eq, ← znFlags_eq_zn]
  rfl

theorem subtractFromAX_eq (m : Byte) (s : State) : subtractFromAX m s = axsed m s :=
  congrArg (State.setP (s.setX _)) (znFlags_eq_zn _ _)

theorem loadAndSp_eq (m : Byte) (s : State) : loadAndSp m s = lased m s :=
  congrArg (State.setP (((s.setA _).setX _).setSp _)) (znFlags_eq_zn _ _)

/-- Settles O49: one equation for each of the five functions, and the records of the 6 opcodes. -/
theorem undocumentedImmediatesAndLas : Obligations.UndocumentedImmediatesAndLas :=
  fun _ _ =>
    ⟨reads_of_readOp 0x0B (fun _ => rfl) andCopyingCarry_eq fun _ _ => rfl,
      reads_of_readOp 0x2B (fun _ => rfl) andCopyingCarry_eq fun _ _ => rfl,
      reads_of_readOp 0x4B (fun _ => rfl) andShiftRight_eq fun _ _ => rfl,
      reads_of_readOp 0x6B (fun _ => rfl) andRotateRight_eq fun _ _ => rfl,
      reads_of_readOp 0xCB (fun _ => rfl) subtractFromAX_eq fun _ _ => rfl,
      reads_of_readOp 0xBB (fun _ => rfl) loadAndSp_eq fun _ _ => rfl⟩

/-! ### The multi-byte *NOPs (R325) -/

/-- Settles O50: the reading shape with nothing done with the byte, and the records of the 21 opcodes. -/
theorem undocumentedNopsReadAndDiscard : Obligations.UndocumentedNopsReadAndDiscard := by
  intro b w
  have nop {i : Instr} {o : Operand} (op : Byte) (h : ∀ s, exec i s = readOp op discardOperand o s) :=
    reads_of_readOp (g := fun _ s => s) op h (fun _ _ => rfl) fun _ _ => rfl
  exact ⟨nop 0x80 fun _ => rfl, nop 0x82 fun _ => rfl, nop 0x89 fun _ => rfl, nop 0xC2 fun _ => rfl,
    nop 0xE2 fun _ => rfl,
    nop 0x04 fun _ => rfl, nop 0x44 fun _ => rfl, nop 0x64 fun _ => rfl,
    nop 0x14 fun _ => rfl, nop 0x34 fun _ => rfl, nop 0x54 fun _ => rfl, nop 0x74 fun _ => rfl,
    nop 0xD4 fun _ => rfl, nop 0xF4 fun _ => rfl,
    nop 0x0C fun _ => rfl, nop 0x1C fun _ => rfl, nop 0x3C fun _ => rfl, nop 0x5C fun _ => rfl,
    nop 0x7C fun _ => rfl, nop 0xDC fun _ => rfl, nop 0xFC fun _ => rfl⟩

end Sys2Proof.Machine
end

section
/-!
PROOFS. The picture of 49_renderer.md. `topPaint` is what a list of paints shows at a pixel, and a list is known by its
members there (`topPaint_eq_of_mem_iff`): each layer's paints show what the one-pixel functions say, and a later layer covers
an earlier one. The one-pixel functions are then put in the arithmetic of the statements, function by function.
-/

namespace Sys2Proof.Machine

open Sys2Proof.Claims

/-! ### What a list of paints shows at a pixel (R410) -/

/-- The colour of the last paint on pixel `(x, y)`, if there is one. -/
def topPaint (x y : Nat) : List Paint → Option Colour
  | [] => none
  | q :: l => (topPaint x y l).or (if q.x = (x : Int) ∧ q.y = (y : Int) then some q.c else none)

theorem painted_eq (l : List Paint) (start : Colour) (x y : Nat) :
    painted l start x y = (topPaint x y l).getD start := by
  induction l generalizing start with
  | nil => rfl
  | cons q l ih =>
    show painted l (if q.x = (x : Int) ∧ q.y = (y : Int) then q.c else start) x y = _
    rw [ih, topPaint]
    cases topPaint x y l with
    | some c => rfl
    | none => split <;> rfl

/-- Later paints cover earlier ones. -/
theorem topPaint_append (x y : Nat) (l l' : List Paint) :
    topPaint x y (l ++ l') = (topPaint x y l').or (topPaint x y l) := by
  induction l with
  | nil => exact (Option.or_none).symm
  | cons q l ih => rw [List.cons_append, topPaint, ih, topPaint, Option.or_assoc]

/-- Of groups painted from the last to the first, the first that paints the pixel is on top. -/
theorem topPaint_flatMap_reverse (x y : Nat) (f : Nat → List Paint) (ns : List Nat) :
    topPaint x y (ns.reverse.flatMap f) = ns.findSome? fun n => topPaint x y (f n) := by
  induction ns with
  | nil => rfl
  | cons n ns ih =>
    rw [List.reverse_cons, List.flatMap_append, topPaint_append, ih, List.flatMap_singleton, List.findSome?_cons]
    cases topPaint x y (f n) <;> rfl

theorem mem_of_topPaint_eq_some {x y : Nat} {l : List Paint} {c : Colour} (h : topPaint x y l = some c) :
    { x := x, y := y, c := c } ∈ l := by
  induction l with
  | nil => cases h
  | cons q l ih =>
    rw [topPaint, Option.or_eq_some_iff] at h
    obtain h | ⟨-, h⟩ := h
    · exact List.mem_cons_of_mem q (ih h)
    · split at h
      · next hq =>
        obtain ⟨hx, hy⟩ := hq
        cases h
        rw [← hx, ← hy]
        exact List.mem_cons_self
      · cases h

theorem topPaint_isSome_of_mem {x y : Nat} {l : List Paint} {c : Colour} (h : { x := x, y := y, c := c } ∈ l) :
    (topPaint x y l).isSome := by
  induction l with
  | nil => cases h
  | cons q l ih =>
    rw [topPaint, Option.isSome_or, Bool.or_eq_true]
    obtain rfl | h := List.mem_cons.mp h
    · exact .inr (by simp)
    · exact .inl (ih h)

/-- Where the paints of a list on a pixel all have one colour, the list shows it. -/
theorem topPaint_eq_of_mem_iff {x y : Nat} {l : List Paint} {o : Option Colour}
    (h : ∀ c, { x := x, y := y, c := c } ∈ l ↔ o = some c) : topPaint x y l = o := by
  cases htop : topPaint x y l with
  | some c => exact ((h c).mp (mem_of_topPaint_eq_some htop)).symm
  | none =>
    cases o with
    | none => rfl
    | some c =>
      have hsome := topPaint_isSome_of_mem ((h c).mpr rfl)
      rw [htop] at hsome
      cases hsome

/-! ### The layers (R414, R423) -/

/-- The main region at a pixel (R414). -/
def mainRegionAt (cart : Cartridge) (u : Ppu) (x y : Nat) : Option Colour :=
  if x + u.scrollX.toNat < 256 ∧ y + u.scrollY.toNat < 240 then
    some (bgPixel cart u (mainBank cart.mirroring u) (x + u.scrollX.toNat) (y + u.scrollY.toNat))
  else none

/-- The second region at a pixel of the picture (R414). -/
def secondRegionAt (cart : Cartridge) (u : Ppu) (x y : Nat) : Option Colour :=
  if 256 ≤ x + u.scrollX.toNat then
    some (bgPixel cart u (secondBank cart.mirroring u) (x + u.scrollX.toNat - 256) y)
  else if u.scrollX.toNat = 0 ∧ 240 ≤ y + u.scrollY.toNat ∧ y + u.scrollY.toNat - 240 < min u.scrollY.toNat 240 then
    some (bgPixel cart u (secondBank cart.mirroring u) x (y + u.scrollY.toNat - 240))
  else none

theorem topPaint_mainPaints (cart : Cartridge) (u : Ppu) (x y : Nat) :
    topPaint x y (mainPaints cart u) = mainRegionAt cart u x y := by
  refine topPaint_eq_of_mem_iff fun c => ?_
  simp only [mainPaints, mainRegionAt, List.mem_flatMap, List.mem_map, List.mem_range'_1, Paint.mk.injEq]
  constructor
  · rintro ⟨v, hv, w, hw, hx, hy, rfl⟩
    obtain rfl : w = x + u.scrollX.toNat := by omega
    obtain rfl : v = y + u.scrollY.toNat := by omega
    exact if_pos ⟨by omega, by omega⟩
  · intro h
    split at h
    · next hin =>
      cases h
      exact ⟨_, ⟨by omega, by omega⟩, _, ⟨by omega, by omega⟩, by omega, by omega, rfl⟩
    · cases h

theorem topPaint_secondPaints (cart : Cartridge) (u : Ppu) {x y : Nat} (hx : x < 256) (hy : y < 240) :
    topPaint x y (secondPaints cart u) = secondRegionAt cart u x y := by
  have hsx := u.scrollX.isLt
  refine topPaint_eq_of_mem_iff fun c => ?_
  simp only [secondPaints, secondRegionAt]
  split
  · next hright =>
    simp only [List.mem_flatMap, List.mem_map, List.mem_range, Paint.mk.injEq]
    constructor
    · rintro ⟨v, hv, w, hw, hwx, hvy, rfl⟩
      have hcolumn : w = x + u.scrollX.toNat - 256 := by omega
      obtain rfl : v = y := by omega
      rw [if_pos (by omega), hcolumn]
    · intro h
      split at h
      · cases h
        exact ⟨y, hy, _, by omega, by omega, rfl, rfl⟩
      · rw [if_neg (by omega)] at h
        cases h
  · next hleft =>
    rw [if_neg (c := 256 ≤ x + u.scrollX.toNat) (by omega)]
    split
    · next hbelow =>
      simp only [List.mem_flatMap, List.mem_map, List.mem_range, Paint.mk.injEq]
      constructor
      · rintro ⟨v, hv, w, hw, hwx, hvy, rfl⟩
        obtain rfl : w = x := by omega
        have hrow : v = y + u.scrollY.toNat - 240 := by omega
        rw [if_pos (by omega), hrow]
      · intro h
        split at h
        · next hin =>
          cases h
          exact ⟨_, by omega, x, hx, rfl, by omega, rfl⟩
        · cases h
    · next hnone =>
      rw [if_neg (by omega)]
      exact ⟨nofun, nofun⟩

/-- The second region is painted over the main one; they do not overlap. -/
theorem backgroundAt_eq (cart : Cartridge) (u : Ppu) (x y : Nat) :
    backgroundAt cart u x y = (secondRegionAt cart u x y).or (mainRegionAt cart u x y) := by
  simp only [backgroundAt, secondRegionAt, mainRegionAt]
  by_cases hright : 256 ≤ x + u.scrollX.toNat
  · rw [if_pos hright, if_pos hright, Option.some_or]
  rw [if_neg hright, if_neg hright]
  by_cases hmain : y + u.scrollY.toNat < 240
  · rw [if_pos hmain, if_neg (by omega), Option.none_or, if_pos ⟨by omega, hmain⟩]
  rw [if_neg hmain, if_neg (c := _ ∧ y + u.scrollY.toNat < 240) (by omega), Option.or_none]
  simp only [Nat.not_lt.mp hmain, true_and]

/-- A flip undoes itself. -/
theorem flipped_flipped (flip : Bool) {i : Nat} (hi : i < 8) : flipped flip (flipped flip i) = i := by
  unfold flipped
  split <;> omega

theorem flipped_lt (flip : Bool) {i : Nat} (hi : i < 8) : flipped flip i < 8 := by
  unfold flipped
  split <;> omega

theorem topPaint_spritePaints (cart : Cartridge) (u : Ppu) (n x y : Nat) :
    topPaint x y (spritePaints cart u n) = spriteAt cart u n x y := by
  refine topPaint_eq_of_mem_iff fun c => ?_
  simp only [spritePaints, spriteAt, List.mem_flatMap, List.mem_filterMap, List.mem_range]
  generalize spriteOf u n = sp
  constructor
  · rintro ⟨j, hj, i, hi, h⟩
    split at h
    · cases h
    · next hp =>
      simp only [Option.some.injEq, Paint.mk.injEq, Int.natCast_inj] at h
      obtain ⟨rfl, rfl, rfl⟩ := h
      have hi' := flipped_lt (sp.attr.getLsbD 6) hi
      have hj' := flipped_lt (sp.attr.getLsbD 7) hj
      rw [if_pos (by omega), Nat.add_sub_cancel_left, Nat.add_sub_cancel_left, flipped_flipped _ hi,
        flipped_flipped _ hj, if_neg hp]
  · intro h
    split at h
    · next hin =>
      have hi : x - sp.x < 8 := by omega
      have hj : y - sp.y < 8 := by omega
      refine ⟨_, flipped_lt (sp.attr.getLsbD 7) hj, _, flipped_lt (sp.attr.getLsbD 6) hi, ?_⟩
      split at h
      · cases h
      · next hp =>
        cases h
        rw [if_neg hp, flipped_flipped _ hi, flipped_flipped _ hj, Nat.add_sub_cancel' (by omega),
          Nat.add_sub_cancel' (by omega)]
    · cases h

/-- Painting shows the topmost layer. -/
theorem picture_eq_pixelAt (cart : Cartridge) (u : Ppu) {x y : Nat} (hx : x < 256) (hy : y < 240) :
    picture cart u y x = pixelAt cart u y x := by
  rw [picture, painted_eq, allPaints, topPaint_append, topPaint_append, topPaint_flatMap_reverse, topPaint_mainPaints,
    topPaint_secondPaints cart u hx hy, ← backgroundAt_eq, pixelAt]
  simp only [topPaint_spritePaints]
  cases (List.range 64).findSome? fun n => spriteAt cart u n x y <;> rfl

/-! ### The one-pixel functions in the statements' arithmetic (R411 to R423) -/

theorem toNat_paletteColour (u : Ppu) (i : Nat) : (paletteColour u i).toNat = shade u i := BitVec.toNat_setWidth ..

theorem toNat_getLsbD (b : Byte) (k : Nat) : (b.getLsbD k).toNat = bitOf b k := Nat.toNat_testBit b.toNat k

theorem pattern_eq (cart : Cartridge) (base : Nat) (t : Byte) (i j : Nat) :
    pattern cart base t i j = patternValue cart base t.toNat i j := by
  simp only [pattern, toNat_getLsbD]
  rfl

theorem patternTable_eq (u : Ppu) (k : Nat) : patternTable u k = if u.ctrl.getLsbD k then 0x1000 else 0x0000 := by
  rw [patternTable, ← toNat_getLsbD]
  cases u.ctrl.getLsbD k <;> rfl

theorem toNat_and_three (b : Byte) : (b &&& 3).toNat = b.toNat % 4 := Nat.and_two_pow_sub_one_eq_mod b.toNat 2

/-- The bank is bit 0 of `ctrl[1:0]` under Vertical and bit 1 otherwise (R413, D27). -/
theorem mainBank_eq (mi : Mirroring) (u : Ppu) : mainBank mi u = mainNametable mi u := by
  have hn : u.ctrl.toNat % 4 < 4 := Nat.mod_lt _ (by decide)
  simp only [mainBank, mainNametable, toNat_and_three]
  generalize u.ctrl.toNat % 4 = n at hn ⊢
  match n, hn with
  | 0, _ | 1, _ | 2, _ | 3, _ => cases mi <;> rfl

/-- Tile `(x / 8, y / 8)` is in the 32 by 32 block `(x / 32, y / 32)`, in the quadrant of `x / 16` and `y / 16`. -/
theorem attributeGroup_eq (u : Ppu) (bank x y : Nat) :
    attributeGroup u bank (x / 8) (y / 8) =
      (u.vram.read (bank * 0x400 + (0x3C0 + y / 32 * 8 + x / 32))).toNat / 4 ^ (x / 16 % 2 + 2 * (y / 16 % 2)) % 4 := by
  have hblock : 0x3C0 + y / 8 / 4 * 8 + x / 8 / 4 = 0x3C0 + y / 32 * 8 + x / 32 := by omega
  have hquadrant : 2 * (x / 8 % 4 / 2) + 4 * (y / 8 % 4 / 2) = 2 * (x / 16 % 2 + 2 * (y / 16 % 2)) := by omega
  rw [attributeGroup, toNat_and_three, BitVec.toNat_ushiftRight, Nat.shiftRight_eq_div_pow, hblock, hquadrant,
    Nat.pow_mul]
  rfl

theorem toNat_bgPixel (cart : Cartridge) (u : Ppu) (bank x y : Nat) :
    (bgPixel cart u bank x y).toNat = backgroundShade cart u bank x y := by
  have hpattern : pattern cart (bgBase u) (tileAt u bank (x / 8) (y / 8)) (x % 8) (y % 8) =
      patternValue cart (patternTable u 4) (u.vram.read (bank * 0x400 + (y / 8 * 32 + x / 8))).toNat (x % 8) (y % 8) := by
    rw [pattern_eq, patternTable_eq]
    rfl
  simp only [bgPixel, backgroundShade, hpattern, attributeGroup_eq, apply_ite BitVec.toNat, toNat_paletteColour]

theorem toNat_spriteColour (u : Ppu) (sp : Sprite) (p : Nat) :
    (spriteColour u sp p).toNat = shade u (0x10 + 4 * (sp.attr.toNat % 4) + p) := by
  rw [spriteColour, toNat_paletteColour, toNat_and_three]

/-- The background, in the statements' arithmetic. -/
theorem backgroundShown_eq (cart : Cartridge) (u : Ppu) {x y : Nat} (hy : y < 240) :
    (backgroundAt cart u x y).map BitVec.toNat = backgroundShown cart u x y := by
  have hzero : u.scrollX = 0 ↔ u.scrollX.toNat = 0 := BitVec.toNat_eq
  simp only [backgroundAt, backgroundShown, secondBank, mainBank_eq, apply_ite (Option.map BitVec.toNat),
    Option.map_some, Option.map_none, toNat_bgPixel]
  by_cases hright : 256 ≤ x + u.scrollX.toNat
  · rw [if_pos hright, if_pos hright]
  rw [if_neg hright, if_neg hright]
  by_cases hmain : y + u.scrollY.toNat < 240
  · rw [if_pos hmain, if_pos hmain]
  have hsecond : (u.scrollX.toNat = 0 ∧ y + u.scrollY.toNat - 240 < min u.scrollY.toNat 240) ↔
      (u.scrollX = 0 ∧ y + u.scrollY.toNat < 480) := by
    rw [hzero]
    omega
  rw [if_neg hmain, if_neg hmain]
  simp only [hsecond]

/-- A flip counts from the other side of the sprite. -/
theorem flipped_sub (attr : Byte) (k : Nat) {x left : Nat} (hlo : left ≤ x) (hhi : x ≤ left + 7) :
    flipped (attr.getLsbD k) (x - left) = if bitOf attr k = 1 then left + 7 - x else x - left := by
  rw [flipped, ← toNat_getLsbD]
  cases attr.getLsbD k
  · rfl
  · show 7 - (x - left) = left + 7 - x
    omega

/-- A sprite, in the statements' arithmetic. -/
theorem spriteShown_eq (cart : Cartridge) (u : Ppu) (n x y : Nat) :
    (spriteAt cart u n x y).map BitVec.toNat = spriteShown cart u x y n := by
  have hleft : (spriteOf u n).x = (u.oam.read (4 * n + 3)).toNat := rfl
  have htop : (spriteOf u n).y = (u.oam.read (4 * n)).toNat := rfl
  simp only [spriteAt, spriteShown]
  by_cases hin : (spriteOf u n).x ≤ x ∧ x < (spriteOf u n).x + 8 ∧ (spriteOf u n).y ≤ y ∧ y < (spriteOf u n).y + 8
  · have ⟨hx, _, hy, _⟩ := hin
    rw [if_pos hin, flipped_sub _ 6 hx (by omega), flipped_sub _ 7 hy (by omega), spritePattern, pattern_eq,
      spriteBase, ← patternTable_eq, apply_ite (Option.map BitVec.toNat), Option.map_some, Option.map_none,
      toNat_spriteColour]
    exact (if_pos ⟨hx, by omega, hy, by omega⟩).symm
  · rw [if_neg hin, if_neg (by omega), Option.map_none]

theorem toNat_pixelAt (cart : Cartridge) (u : Ppu) {x y : Nat} (hy : y < 240) :
    (pixelAt cart u y x).toNat = shownAt cart u x y := by
  have hsprites : (List.range 64).findSome? (spriteShown cart u x y) =
      ((List.range 64).findSome? fun n => spriteAt cart u n x y).map BitVec.toNat := by
    rw [List.map_findSome?]
    exact congrArg (List.findSome? · _) (funext fun n => (spriteShown_eq cart u n x y).symm)
  rw [pixelAt, shownAt, hsprites, ← backgroundShown_eq cart u hy, ← toNat_paletteColour, Option.getD_map]
  cases (List.range 64).findSome? fun n => spriteAt cart u n x y <;> rfl

/-- Settles O59: painting shows the topmost layer, and that layer's colour is `shownAt`'s number. -/
theorem pictureIsItsTopmostLayer : Obligations.PictureIsItsTopmostLayer := by
  intro cart u x y hx hy
  have hpixel := picture_eq_pixelAt cart u hx hy
  exact ⟨hpixel, hpixel ▸ toNat_pixelAt cart u hy⟩

/-! ### What the picture reads (R410, R32) -/

/-- The PPU with everything reset but what the picture reads. -/
def Ppu.pictureInputs (u : Ppu) : Ppu :=
  { Ppu.powerOn with
    ctrl := u.ctrl &&& 0x1B, scrollX := u.scrollX, scrollY := u.scrollY, vram := u.vram, palette := u.palette
    oam := u.oam }

theorem mainBank_pictureInputs (mi : Mirroring) (u : Ppu) : mainBank mi u.pictureInputs = mainBank mi u := by
  have hbits : u.ctrl &&& 0x1B &&& 3 = u.ctrl &&& 3 := BitVec.and_assoc ..
  simp only [mainBank, Ppu.pictureInputs, hbits]

theorem bgBase_pictureInputs (u : Ppu) : bgBase u.pictureInputs = bgBase u := by
  have hbit : (u.ctrl &&& 0x1B).getLsbD 4 = u.ctrl.getLsbD 4 := by simp
  simp only [bgBase, Ppu.pictureInputs, hbit]

theorem spriteBase_pictureInputs (u : Ppu) : spriteBase u.pictureInputs = spriteBase u := by
  have hbit : (u.ctrl &&& 0x1B).getLsbD 3 = u.ctrl.getLsbD 3 := by simp
  simp only [spriteBase, Ppu.pictureInputs, hbit]

theorem bgPixel_pictureInputs (cart : Cartridge) (u : Ppu) (bank x y : Nat) :
    bgPixel cart u.pictureInputs bank x y = bgPixel cart u bank x y := by
  rw [bgPixel, bgBase_pictureInputs]
  rfl

theorem spritePattern_pictureInputs (cart : Cartridge) (u : Ppu) (sp : Sprite) (i j : Nat) :
    spritePattern cart u.pictureInputs sp i j = spritePattern cart u sp i j := by
  rw [spritePattern, spriteBase_pictureInputs]
  rfl

theorem mainPaints_pictureInputs (cart : Cartridge) (u : Ppu) : mainPaints cart u.pictureInputs = mainPaints cart u := by
  simp only [mainPaints, mainBank_pictureInputs, bgPixel_pictureInputs]
  rfl

theorem secondPaints_pictureInputs (cart : Cartridge) (u : Ppu) :
    secondPaints cart u.pictureInputs = secondPaints cart u := by
  simp only [secondPaints, secondBank, mainBank_pictureInputs, bgPixel_pictureInputs]
  rfl

theorem spritePaints_pictureInputs (cart : Cartridge) (u : Ppu) :
    spritePaints cart u.pictureInputs = spritePaints cart u := by
  funext n
  simp only [spritePaints, spritePattern_pictureInputs]
  rfl

theorem picture_pictureInputs (cart : Cartridge) (u : Ppu) : picture cart u.pictureInputs = picture cart u := by
  funext y x
  rw [picture, allPaints, mainPaints_pictureInputs, secondPaints_pictureInputs, spritePaints_pictureInputs]
  rfl

/-- Settles O60: the picture is that of its inputs, which the two states share. -/
theorem pictureReadsOnlyItsInputs : Obligations.PictureReadsOnlyItsInputs := by
  intro cart u w x y hctrl hsx hsy hvram hpalette hoam
  have hinputs : u.pictureInputs = w.pictureInputs := by
    simp only [Ppu.pictureInputs, hctrl, hsx, hsy, hvram, hpalette, hoam]
  rw [← picture_pictureInputs, hinputs, picture_pictureInputs]

end Sys2Proof.Machine
end

section
/-!
PROOFS. Fatal conditions, the step, the NMI and the joypad of 60_exceptions.md. The poll is one equation (`pollNmi_eq`); with
it a running machine's step is the fetch in the state the poll leaves, then `exec` (`step_of_fetch_ok`,
`step_of_fetch_fatal`), and the statements about a step say what that fetch gives. The state at a fatal condition is one that
accesses alone have made from the state before (`AtFault`).
-/

namespace Sys2Proof.Machine

open Sys2Proof.Claims

/-! ### The poll (R456, R457) -/

/-- The NMI entry pushes to RAM and reads its vector from `PRG`: it never ends in a fatal condition. -/
theorem nmiEntry_eq (s : State) :
    nmiEntry s =
      .ok () ((tick s.cfg.nmiCycles (((s.setRam (nmiFrame s)).setSp (s.sp - 3)).setFlag .i true)).setPc
        (hilo (prgByte s.cart 0xFFFB) (prgByte s.cart 0xFFFA))) := by
  have hsp : s.sp - 2 - 1 = s.sp - 3 := by bv_omega
  rw [nmiEntry, push16_eq, Access.andThen_ok, push_eq, Access.andThen_ok,
    memRead2_of_prg (by decide) (by decide), Access.andThen_ok, State.setSp_sp, hsp]
  rfl

/-- The poll in one equation: it always completes. -/
theorem pollNmi_eq (s : State) : pollNmi s = .ok () (polled s) := by
  unfold pollNmi polled
  split
  · exact nmiEntry_eq _
  · rfl

theorem polled_of_no_request {s : State} (h : s.ppu.pendingNmi = false) : polled s = s :=
  if_neg (Bool.eq_false_iff.mp h)

/-! ### The step (R450) -/

section Running

variable {s t : State} (hrun : s.run = .running)

include hrun

theorem step_of_fetch_ok {i : Instr} (h : fetch (polled { s with frameReady := false }) = .ok i t) :
    step s = exec i t := by
  have hpoll := pollNmi_eq (s.setFrameReady false)
  simp only [step, hrun, hpoll, Access.andThen_ok]
  rw [State.setFrameReady, h]

theorem step_of_fetch_fatal {k : FatalKind} (h : fetch (polled { s with frameReady := false }) = .fatal k t) :
    step s = .next { t with run := .faulted k } := by
  have hpoll := pollNmi_eq (s.setFrameReady false)
  simp only [step, hrun, hpoll, Access.andThen_ok]
  rw [State.setFrameReady, h]
  rfl

end Running

/-- Settles O10: the poll in one equation, and the step from the fetch after it. -/
theorem pendingNmiIsEnteredFirst : Obligations.PendingNmiIsEnteredFirst :=
  ⟨pollNmi_eq, fun _ hrun => ⟨fun _ _ h => step_of_fetch_ok hrun h, fun _ _ h => step_of_fetch_fatal hrun h⟩⟩

/-! ### The fetch (R120, R85) -/

/-- A fetch is made of accesses alone: it keeps what they keep, as `Stable.fetch` has it of a whole step's properties. -/
theorem AccessStable.fetch {I : State → Prop} (hI : AccessStable I) {s : State} (h : I s) : (fetch s).keeps I := by
  refine Access.keeps_andThen (hI.memRead _ h) fun op s h => Access.keeps_andThen ?_ fun _ _ h => h
  unfold fetchOperands
  split
  · exact Access.keeps_andThen (hI.memRead _ h) fun _ _ h => h
  · exact Access.keeps_andThen (hI.memRead _ h) fun _ _ h => Access.keeps_andThen (hI.memRead _ h) fun _ _ h => h
  · exact h

/-- Settles O7: no read of a fetch moves PC. -/
theorem stepFetchesFromAnyAddress : Obligations.StepFetchesFromAnyAddress := by
  intro s hrun
  have hpc := (accessStable_pc (polled { s with frameReady := false }).pc).fetch rfl
  refine ⟨_, pollNmi_eq _, fun i t h => ⟨step_of_fetch_ok hrun h, ?_⟩, fun k t h => ⟨step_of_fetch_fatal hrun h, ?_⟩⟩
  · rwa [h] at hpc
  · rwa [h] at hpc

/-! ### Every instruction and every running step answers (R440, R451) -/

theorem finish_next (op : Byte) (r : Access Nat) : ∃ t, finish op r = .next t := by
  cases r with
  | ok n s => exact ⟨_, rfl⟩
  | fatal k s => exact ⟨_, rfl⟩

/-- Every instruction answers a next state: a completed one, one at a fatal condition, or BRK's. -/
theorem exec_next (i : Instr) (s : State) : ∃ t, exec i s = .next t := by
  rw [exec_eq]
  cases workOf i.mnemonic with
  | modifies f g =>
    unfold runWork
    dsimp only
    split
    · exact finish_next _ _
    · exact finish_next _ _
  | halts | faults => exact ⟨_, rfl⟩
  | registers f => exact finish_next _ (.ok _ _)
  | reads | stores | stack | branches | jumps | transfers => exact finish_next _ _

/-- Settles O9: whatever the fetch gives, a running machine has a next state. -/
theorem stepIsDefinedExactlyWhenRunning : Obligations.StepIsDefinedExactlyWhenRunning := by
  refine ⟨fun s hrun => ?_, fun s hrun => ?_, fun s k hrun => ?_, exec_next⟩
  · cases hfetch : fetch (polled { s with frameReady := false }) with
    | ok i t =>
      rw [step_of_fetch_ok hrun hfetch]
      exact exec_next i t
    | fatal k t => exact ⟨_, step_of_fetch_fatal hrun hfetch⟩
  · rw [step, hrun]
  · rw [step, hrun]

/-! ### Fetching bytes of memory (R120, R103) -/

/-- Bytes of memory are fetched as a list of bytes is decoded, without effect. -/
theorem fetch_of_storedBytes {s : State} {op : Byte} {bs : List Byte} (hop : storedByte s s.pc = some op)
    (hlength : OperandBytes op bs) (hbs : ∀ k, k < bs.length → storedByte s (s.pc + BitVec.ofNat 16 (k + 1)) = bs[k]?) :
    fetch s = .ok (instrOfBytes op bs) s := by
  have operand {k : Nat} {b : Byte} (hk : k < bs.length) (hb : bs[k]? = some b) :
      memRead (s.pc + BitVec.ofNat 16 (k + 1)) s = .ok b s :=
    memRead_of_storedByte ((hbs k hk).trans hb)
  have hoperands : fetchOperands s.pc op s = .ok (bs.getD 0 0, bs.getD 1 0) s := by
    obtain rfl | ⟨b1, rfl⟩ | ⟨b1, b2, rfl⟩ := hlength.cases
    · rw [fetchOperands, ← hlength]
      rfl
    · have h1 : memRead (s.pc + 1) s = .ok b1 s := operand (k := 0) (Nat.succ_pos _) rfl
      rw [fetchOperands, ← hlength]
      simp only [List.length_cons, List.length_nil, h1, Access.andThen_ok]
      rfl
    · have h1 : memRead (s.pc + 1) s = .ok b1 s := operand (k := 0) (Nat.succ_pos _) rfl
      have h2 : memRead (s.pc + 2) s = .ok b2 s := operand (k := 1) (Nat.lt_succ_self _) rfl
      rw [fetchOperands, ← hlength]
      simp only [List.length_cons, List.length_nil, h1, h2, Access.andThen_ok]
      rfl
  rw [fetch, memRead_of_storedByte hop, Access.andThen_ok, hoperands]
  rfl

/-- Settles O6: without a request the poll changes nothing, and the fetch reads the bytes that were decoded. -/
theorem stepRunsTheDecodedInstruction : Obligations.StepRunsTheDecodedInstruction := by
  intro s bytes i hrun hrequest hdecode hstored
  obtain ⟨op, bs, hlength, rfl, rfl⟩ := decode_ok hdecode
  rw [List.append_nil] at hstored
  refine step_of_fetch_ok hrun ?_
  rw [polled_of_no_request (s := { s with frameReady := false }) hrequest]
  refine fetch_of_storedBytes ?_ hlength fun k hk => hstored (k + 1) (Nat.succ_lt_succ hk)
  have hpc : s.pc + BitVec.ofNat 16 0 = s.pc := BitVec.add_zero _
  have hfirst := hstored 0 (Nat.succ_pos _)
  rwa [hpc] at hfirst

/-! ### Illegal opcodes (R135, R442) -/

/-- No operand byte of a byte with no table entry is read. -/
theorem fetch_of_illegal {op : Byte} {s t : State} (hop : op ∈ illegalOpcodes) (hread : memRead s.pc s = .ok op t) :
    fetch s = .ok (.ill op) t := by
  have hlength : lengthOf op = 1 := Instr.length_eq (i := .ill op) (List.contains_iff_mem.mpr hop)
  simp only [fetch, hread, Access.andThen_ok, fetchOperands, hlength, instrOf_of_illegal hop]

/-- Settles O8: `exec` by evaluation, and the step from the fetch of one of the 25 bytes. -/
theorem illegalOpcodeFaults : Obligations.IllegalOpcodeFaults := by
  refine ⟨fun _ _ => rfl, fun op s t hrun hrequest hop hread => ?_⟩
  have hpc : t.pc = s.pc := memRead_pc (s := { s with frameReady := false }) hread
  have hfetch : fetch (polled { s with frameReady := false }) = .ok (.ill op) t := by
    rw [polled_of_no_request (s := { s with frameReady := false }) hrequest]
    exact fetch_of_illegal hop hread
  rw [step_of_fetch_ok hrun hfetch, ← hpc]
  rfl

/-! ### RTI after the NMI entry (R459) -/

/-- The three bytes of the frame are at their own stack bytes, the pointer wrapping in page 1. -/
theorem nmiFrame_read (s : State) :
    (nmiFrame s).read (256 + s.sp.toNat) = hiByte s.pc ∧
    (nmiFrame s).read (256 + (s.sp - 1).toNat) = loByte s.pc ∧
    (nmiFrame s).read (256 + (s.sp - 2).toNat) = restoredP s.p := by
  have h02 : 256 + s.sp.toNat ≠ 256 + (s.sp - 2).toNat := by bv_omega
  have h12 : 256 + (s.sp - 1).toNat ≠ 256 + (s.sp - 2).toNat := by bv_omega
  have hframe : nmiFrame s = (pushedWord s.ram s.sp s.pc).write (256 + (s.sp - 2).toNat) (restoredP s.p) := rfl
  rw [hframe, Memory.read_write_other _ _ h02, Memory.read_write_other _ _ h12, Memory.read_write_same,
    pushedWord_read_hi, pushedWord_read_lo]
  exact ⟨rfl, rfl, rfl⟩

/-- Settles O11: RTI pops the frame that the entry pushed; the Break bits of the byte it pops are those of `P`. -/
theorem rtiResumesWhatTheNmiPreceded : Obligations.RtiResumesWhatTheNmiPreceded := by
  rintro s e ⟨hb1, hb2⟩ hrequest hpoll
  rw [pollNmi_eq, polled, if_pos hrequest] at hpoll
  cases hpoll
  obtain ⟨hhi, hlo, hp⟩ := nmiFrame_read s
  have h1 : s.sp - 3 + 1 = s.sp - 2 := by bv_omega
  have h2 : s.sp - 3 + 2 = s.sp - 1 := by bv_omega
  have h3 : s.sp - 3 + 3 = s.sp := by bv_omega
  have hrestored := restoredP_eq hb1 hb2
  refine ⟨_, exec_rti _, ?_, h3, ?_, rfl, rfl, rfl, rfl⟩
  · show hilo ((nmiFrame s).read (256 + (s.sp - 3 + 3).toNat)) ((nmiFrame s).read (256 + (s.sp - 3 + 2).toNat)) = s.pc
    rw [h3, h2, hhi, hlo, hilo_hiByte_loByte]
  · show restoredP ((nmiFrame s).read (256 + (s.sp - 3 + 1).toNat)) = s.p
    rw [h1, hp, hrestored, hrestored]

/-! ### The state at a fatal condition (R449) -/

/-- `t` is as far as an instruction begun at `s` can be when an access of its faults: PC, the registers, the run and the time
are those of `s`, and so is every flag but C. -/
structure AtFault (s t : State) : Prop where
  pc : t.pc = s.pc
  a : t.a = s.a
  x : t.x = s.x
  y : t.y = s.y
  sp : t.sp = s.sp
  flags : ∀ f, f ≠ .c → getFlag t.p f = getFlag s.p f
  cycles : t.cycles = s.cycles
  scanline : t.ppu.scanline = s.ppu.scanline
  dot : t.ppu.dot = s.ppu.dot
  run : t.run = s.run

theorem AtFault.refl (s : State) : AtFault s s := ⟨rfl, rfl, rfl, rfl, rfl, fun _ _ => rfl, rfl, rfl, rfl, rfl⟩

theorem AtFault.setPpu {s t : State} {u : Ppu} (hu : t.ppu.SameTiming u) (h : AtFault s t) :
    AtFault s (t.setPpu u) := by
  obtain ⟨hline, hdot, _, _⟩ := hu
  exact { h with scanline := hline.trans h.scanline, dot := hdot.trans h.dot }

theorem AtFault.setP {s t : State} {p : Byte} (hp : ∀ f, f ≠ .c → getFlag p f = getFlag t.p f) (h : AtFault s t) :
    AtFault s (t.setP p) :=
  { h with flags := fun f hf => (hp f hf).trans (h.flags f hf) }

/-- Accesses move neither registers nor time. -/
theorem accessStable_atFault (s : State) : AccessStable (AtFault s) where
  ram _ _ _ h := { h with }
  statusRead h := { h with }
  dataRead hr h := h.setPpu (sameTiming_dataRead hr)
  control _ h := { h with }
  mask _ h := { h with }
  oamAddr _ h := { h with }
  oamData _ h := { h with }
  scroll b h := h.setPpu (sameTiming_scrollWrite b _)
  address b h := h.setPpu (sameTiming_addressWrite b _)
  dataWrite hw h := h.setPpu (sameTiming_dataWrite hw)
  joyRead h := { h with }
  joyWrite _ h := { h with }

/-- The work begun at `s` is fatal only as `AtFault` says, and leaves the run as it was where it completes. -/
def Access.FaultsPrecisely {α : Type} (s : State) : Access α → Prop
  | .ok _ t => t.run = s.run
  | .fatal _ t => AtFault s t

theorem Access.faultsPrecisely_andThen {α β : Type} {s : State} {r : Access α} {f : α → State → Access β}
    (h : r.keeps (AtFault s)) (hf : ∀ v t, AtFault s t → (f v t).FaultsPrecisely s) :
    (r.andThen f).FaultsPrecisely s := by
  cases r with
  | ok v t => exact hf v t h
  | fatal k t => exact h

/-- A faulted end of what began at `s` is a state as `AtFault` says in which the condition was raised. -/
def RaisesPrecisely (s : State) (r : Host.Outcome State Fault Refusal) : Prop :=
  ∀ t k, r = .next t → t.run = .faulted k → ∃ u, AtFault s u ∧ t = u.raise k

theorem raisesPrecisely_finish {op : Byte} {s : State} {r : Access Nat} (hrun : s.run = .running)
    (hr : r.FaultsPrecisely s) : RaisesPrecisely s (finish op r) := by
  intro t k h ht
  cases r with
  | ok n u =>
    cases h
    exact nomatch ht.symm.trans (Eq.trans hr hrun)
  | fatal k' u =>
    cases h
    cases ht
    exact ⟨u, hr, rfl⟩

theorem OnlyRegisters.run {s t : State} (h : OnlyRegisters s t) : t.run = s.run := by rw [h]

/-- The stack is in RAM, so the stack instructions complete. -/
theorem faultsPrecisely_stack {n : Mnemonic} {f : State → Access Unit} (hf : workOf n = .stack f) (op : Byte)
    (s : State) : ((f s).andThen fun _ u => .ok 0 (advance op u) : Access Nat).FaultsPrecisely s := by
  have hpush (b : Byte) : ((push b s).andThen fun _ u => .ok 0 (advance op u) : Access Nat).FaultsPrecisely s := by
    rw [push_eq]
    rfl
  cases n <;> cases hf
  case pha | php => exact hpush _
  case pla =>
    rw [pullA_eq]
    rfl
  case plp =>
    rw [pullP_eq]
    rfl

/-- So do JSR, RTS and RTI. -/
theorem faultsPrecisely_transfers {n : Mnemonic} {f : Addr → State → Access Nat} (hf : workOf n = .transfers f)
    (w : Addr) (s : State) : (f w s).FaultsPrecisely s := by
  cases n <;> cases hf
  case jsr =>
    rw [callSubroutine, push16_eq]
    rfl
  case rts =>
    show (returnFromSubroutine s).FaultsPrecisely s
    rw [returnFromSubroutine, pop16_eq]
    rfl
  case rti =>
    show (returnFromInterrupt s).FaultsPrecisely s
    rw [returnFromInterrupt, pop_eq, Access.andThen_ok, pop16_eq]
    rfl

/-- An instruction that turns a running machine into a faulted one raised the condition in a state that its accesses alone
have made; a read-modify-write may have put C before its write. -/
theorem raisesPrecisely_exec (i : Instr) {s : State} (hrun : s.run = .running) : RaisesPrecisely s (exec i s) := by
  have hI := accessStable_atFault s
  have hs := AtFault.refl s
  rw [exec_eq]
  cases hw : workOf i.mnemonic with
  | reads f =>
    exact raisesPrecisely_finish hrun (Access.faultsPrecisely_andThen (hI.readOperand _ hs) fun b u hu =>
      (onlyRegisters_of_reads hw b.1 u).run.trans hu.run)
  | stores v =>
    exact raisesPrecisely_finish hrun (Access.faultsPrecisely_andThen (hI.effAddr _ hs) fun _ _ hu =>
      Access.faultsPrecisely_andThen (hI.memWrite _ _ hu) fun _ _ hu => hu.run)
  | modifies f g =>
    unfold runWork
    dsimp only
    split
    · exact raisesPrecisely_finish (r := .ok _ _) hrun (onlyRegisters_onAccumulator hw s).run
    · refine raisesPrecisely_finish hrun (Access.faultsPrecisely_andThen (hI.effAddr _ hs) fun _ _ hu =>
        Access.faultsPrecisely_andThen (hI.memRead _ hu) fun b u hu => ?_)
      obtain ⟨p, hstate, hp⟩ := modifies_state hw b u
      rw [hstate]
      exact Access.faultsPrecisely_andThen (hI.memWrite _ _ (hu.setP hp)) fun _ v hv =>
        (onlyRegisters_of_modifies hw _ v).2.run.trans hv.run
  | registers f => exact raisesPrecisely_finish (r := .ok _ _) hrun (onlyRegisters_of_registers hw s).run
  | stack f => exact raisesPrecisely_finish hrun (faultsPrecisely_stack hw _ s)
  | branches cond =>
    have hbranch (c : Bool) (b : Byte) : (branchIf c b s).FaultsPrecisely s := by cases c <;> rfl
    exact raisesPrecisely_finish hrun (hbranch _ _)
  | jumps => exact raisesPrecisely_finish hrun (Access.faultsPrecisely_andThen (hI.effAddr _ hs) fun _ _ hu => hu.run)
  | transfers f => exact raisesPrecisely_finish hrun (faultsPrecisely_transfers hw _ s)
  | halts =>
    intro t k h ht
    cases h
    cases ht
  | faults =>
    intro t k h ht
    cases h
    cases ht
    exact ⟨s, hs, rfl⟩

/-- Settles O19: `raisesPrecisely_exec` for the instruction, and the faulting access by `memRead_fatal` and `memWrite_fatal`. -/
theorem fatalStateIsPrecise : Obligations.FatalStateIsPrecise := by
  refine ⟨fun i s t k hrun h ht => ?_, fun _ _ _ _ h => memRead_fatal h, fun a b s t k ha h => ?_⟩
  · obtain ⟨u, hu, rfl⟩ := raisesPrecisely_exec i hrun t k h ht
    exact ⟨hu.pc, hu.a, hu.x, hu.y, hu.sp, hu.flags, hu.cycles, hu.scanline, hu.dot⟩
  · obtain hsame | ⟨hport, -⟩ := memWrite_fatal h
    · exact hsame
    · exact absurd hport ha

/-! ### The joypad (R471, R472) -/

theorem memWrite_of_joypad {s : State} (h : s.cfg.joypadPresent = true) (b : Byte) :
    memWrite 0x4016 b s = .ok 0 (s.setJoy (joypadWrite b s.joy)) := if_pos h

theorem joypadAnswer_of_le {j : Joypad} (h : j.index ≤ 7) :
    joypadAnswer j = if j.buttons.getLsbD j.index then 1 else 0 := if_neg (Nat.not_lt.mpr h)

/-- Settles O29: the two accesses of a joypad that is present, by index and strobe, and of one that is not. -/
theorem joypadShiftsItsButtons : Obligations.JoypadShiftsItsButtons := by
  intro s b
  refine ⟨fun hjoy => memWrite_of_joypad hjoy b, fun hjoy hindex => ?_, fun hjoy hindex hstrobe => ?_,
    fun hjoy hindex hstrobe => ?_, fun hjoy => ⟨?_, ?_⟩⟩
  · rw [memRead_of_joypad hjoy, joypadAnswer, if_pos hindex, joypadReadEffect, if_pos (.inl hindex)]
    rfl
  · rw [memRead_of_joypad hjoy, joypadAnswer_of_le hindex, joypadReadEffect, if_pos (c := _ ∨ _) (.inr hstrobe)]
    rfl
  · have hadvances : ¬ (s.joy.index > 7 ∨ s.joy.strobe = true) := by
      rintro (hgt | hset)
      · exact Nat.not_lt.mpr hindex hgt
      · exact Bool.false_ne_true (hstrobe.symm.trans hset)
    rw [memRead_of_joypad hjoy, joypadAnswer_of_le hindex, joypadReadEffect, if_neg hadvances]
    rfl
  · exact memRead_of_noDevice (by decide) (by decide) (by decide) (.inr hjoy)
  · exact memWrite_of_noDevice b (by decide) (by decide) (by decide) (.inr hjoy)

end Sys2Proof.Machine
end

section
/-!
PROOFS. `reset()` and the iNES image of 70_reset_and_hazards.md (R483, R485 to R487). `AcceptedImage` is what an image needs
to be loaded; `parseInes_of_accepted` gives the cartridge of one that meets it, and no other gives one
(`parseInes_ok_iff`).
-/

namespace Sys2Proof.Machine

open Sys2Proof.Claims

/-! ### `reset()` (R483) -/

/-- Settles O57: the vector reads are reads of `PRG`, without effect. -/
theorem resetWritesTheCpuRegisters : Obligations.ResetWritesTheCpuRegisters := by
  intro s
  rw [resetCpu, resetAccess, memRead2_of_prg (by decide) (by decide)]
  rfl

/-! ### The iNES image (R485 to R487) -/

/-- The cartridge of an image whose PRG has the size `size` (R485, R486). -/
def inesCartridge (image : List Byte) (size : PrgSize) : Cartridge :=
  { prg := Memory.ofBytes (imageSlice image (inesPrgStart (imageByte image 6)) size.bytes)
    prgSize := size
    chr := Memory.ofBytes (imageSlice image (inesPrgStart (imageByte image 6) + size.bytes) chrBytes)
    mirroring := inesMirroring (imageByte image 6)
    mapper := inesMapper (imageByte image 6) (imageByte image 7) }

/-- The image can be loaded, with a PRG of the size `size` (R485 to R487). -/
structure AcceptedImage (image : List Byte) (size : PrgSize) : Prop where
  header : 16 ≤ image.length
  magic : image.take 4 = inesMagic
  version : inesVersion (imageByte image 7) = 0
  prgPages : inesPrgSize (imageByte image 4).toNat = some size
  chrPages : (imageByte image 5).toNat = 1
  length : inesPrgStart (imageByte image 6) + size.bytes + chrBytes ≤ image.length

theorem parseInes_of_accepted {image : List Byte} {size : PrgSize} (h : AcceptedImage image size) :
    parseInes image = .ok (inesCartridge image size) := by
  obtain ⟨hheader, hmagic, hversion, hprg, hchr, hlength⟩ := h
  simp only [parseInes, if_neg (Nat.not_lt.mpr hheader), hmagic, hversion, hprg, hchr, ne_eq, not_true_eq_false,
    if_false, if_neg (Nat.not_lt.mpr hlength)]
  rfl

theorem accepted_of_parseInes {image : List Byte} {cart : Cartridge} (h : parseInes image = .ok cart) :
    ∃ size, AcceptedImage image size := by
  unfold parseInes at h
  split at h
  · cases h
  next hheader =>
  split at h
  · cases h
  next hmagic =>
  split at h
  · cases h
  next hversion =>
  split at h
  · cases h
  next size hprg =>
  split at h
  · cases h
  next hchr =>
  split at h
  · cases h
  next hlength =>
  exact ⟨size, Nat.not_lt.mp hheader, Decidable.not_not.mp hmagic, Decidable.not_not.mp hversion, hprg,
    Decidable.not_not.mp hchr, Nat.not_lt.mp hlength⟩

theorem parseInes_ok_iff (image : List Byte) :
    (∃ cart, parseInes image = .ok cart) ↔ ∃ size, AcceptedImage image size :=
  ⟨fun ⟨_, h⟩ => accepted_of_parseInes h, fun ⟨_, h⟩ => ⟨_, parseInes_of_accepted h⟩⟩

/-- One or two pages, each of 16384 bytes (R7, D28). -/
theorem inesPrgSize_eq_some_iff {pages : Nat} {size : PrgSize} :
    inesPrgSize pages = some size ↔ (pages = 1 ∨ pages = 2) ∧ size.bytes = 16384 * pages := by
  unfold inesPrgSize
  split
  · next h => subst h; cases size <;> simp [PrgSize.bytes]
  · split
    · next h => subst h; cases size <;> simp [PrgSize.bytes]
    · next h1 h2 => simp [h1, h2]

/-- `AcceptedImage` in the numbers of the header. -/
theorem acceptedImage_iff (image : List Byte) :
    (∃ size, AcceptedImage image size) ↔
      16 ≤ image.length ∧ image.take 4 = [0x4E, 0x45, 0x53, 0x1A] ∧ (image.getD 7 0 >>> 2) &&& 3 = 0 ∧
      (image.getD 4 0 = 1 ∨ image.getD 4 0 = 2) ∧ image.getD 5 0 = 1 ∧
      16 + (if (image.getD 6 0).getLsbD 2 then 512 else 0) + 16384 * (image.getD 4 0).toNat
        + 8192 * (image.getD 5 0).toNat ≤ image.length := by
  have byte (b c : Byte) : b = c ↔ b.toNat = c.toNat := BitVec.toNat_eq
  have start : inesPrgStart (image.getD 6 0) = 16 + if (image.getD 6 0).getLsbD 2 then 512 else 0 := rfl
  rw [← start, byte (image.getD 4 0), byte (image.getD 4 0), byte (image.getD 5 0)]
  constructor
  · rintro ⟨size, hheader, hmagic, hversion, hprg, hchr, hlength⟩
    obtain ⟨hpages, hbytes⟩ := inesPrgSize_eq_some_iff.mp hprg
    simp only [imageByte, chrBytes] at hversion hchr hpages hbytes hlength
    exact ⟨hheader, hmagic, hversion, hpages, hchr, by omega⟩
  · rintro ⟨hheader, hmagic, hversion, hpages, hchr, hlength⟩
    obtain ⟨size, hbytes⟩ : ∃ size : PrgSize, size.bytes = 16384 * (image.getD 4 0).toNat := by
      obtain h | h := hpages
      · exact ⟨.k16, by rw [h]; rfl⟩
      · exact ⟨.k32, by rw [h]; rfl⟩
    have hchr' : (image.getD 5 0).toNat = 1 := hchr
    refine ⟨size, hheader, hmagic, hversion, inesPrgSize_eq_some_iff.mpr ⟨hpages, hbytes⟩, hchr, ?_⟩
    simp only [imageByte, chrBytes]
    omega

theorem toNat_inesMapper (b6 b7 : Byte) : (inesMapper b6 b7).toNat = b7.toNat / 16 * 16 + b6.toNat / 16 := by
  have hhigh : (b7 &&& 0xF0).toNat = (b7.toNat / 16) <<< 4 := by
    have hmask : b7 &&& (0xF0 : Byte) = b7 >>> 4 <<< 4 := (BitVec.shiftLeft_ushiftRight (x := b7) (n := 4)).symm
    rw [hmask, BitVec.toNat_shiftLeft, BitVec.toNat_ushiftRight, Nat.shiftRight_eq_div_pow, Nat.shiftLeft_eq]
    omega
  have hlow : (b6 >>> 4).toNat = b6.toNat / 16 := by rw [BitVec.toNat_ushiftRight, Nat.shiftRight_eq_div_pow]
  have hmapper : inesMapper b6 b7 = (b7 &&& (0xF0 : Byte)) ||| (b6 >>> 4) := rfl
  rw [hmapper, BitVec.toNat_or, hhigh, hlow, ← Nat.shiftLeft_add_eq_or_of_lt (by omega), Nat.shiftLeft_eq]

/-! ### An image put together from its parts (R486) -/

/-- What comes before PRG: the header and the trainer. -/
def inesFront (pages b6 b7 : Byte) (rest8 trainer : List Byte) : List Byte :=
  [0x4E, 0x45, 0x53, 0x1A, pages, 1, b6, b7] ++ rest8 ++ trainer

/-- The bytes `bytes` of an image, where those before them are known by their number. -/
theorem imageSlice_append {before : List Byte} {i n : Nat} (hi : before.length = i) {bytes : List Byte}
    (hn : bytes.length = n) (rest : List Byte) : imageSlice (before ++ bytes ++ rest) i n = bytes := by
  subst hi hn
  rw [imageSlice, List.append_assoc, List.drop_left, List.take_left]

section Parts

variable {size : PrgSize} {pages b6 b7 : Byte} {rest8 trainer prg chr : List Byte} (extra : List Byte)
  (hpages : inesPrgSize pages.toNat = some size) (hversion : inesVersion b7 = 0) (hrest : rest8.length = 8)
  (htrainer : trainer.length = if b6.getLsbD 2 then 512 else 0) (hprg : prg.length = size.bytes)
  (hchr : chr.length = chrBytes)

include hrest htrainer in
theorem length_inesFront : (inesFront pages b6 b7 rest8 trainer).length = inesPrgStart b6 := by
  simp only [inesFront, List.length_append, List.length_cons, List.length_nil, hrest, htrainer, inesPrgStart]

include hpages hversion hrest htrainer hprg hchr in
theorem accepted_of_parts :
    AcceptedImage (inesFront pages b6 b7 rest8 trainer ++ prg ++ chr ++ extra) size where
  header := by
    have hfront := length_inesFront (pages := pages) (b7 := b7) hrest htrainer
    simp only [List.length_append, hfront, inesPrgStart]
    omega
  magic := rfl
  version := hversion
  prgPages := hpages
  chrPages := rfl
  length := by
    have hfront := length_inesFront (pages := pages) (b7 := b7) hrest htrainer
    simp only [List.length_append, hfront, hprg, hchr]
    exact Nat.le_add_right _ _

include hpages hversion hrest htrainer hprg hchr in
/-- PRG and CHR are found where the header says. -/
theorem parseInes_of_parts :
    parseInes (inesFront pages b6 b7 rest8 trainer ++ prg ++ chr ++ extra) =
      .ok { prg := Memory.ofBytes prg, prgSize := size, chr := Memory.ofBytes chr, mirroring := inesMirroring b6
            mapper := inesMapper b6 b7 } := by
  have hfront := length_inesFront (pages := pages) (b7 := b7) hrest htrainer
  have hbefore : (inesFront pages b6 b7 rest8 trainer ++ prg).length = inesPrgStart b6 + size.bytes := by
    rw [List.length_append, hfront, hprg]
  have hprgSlice := imageSlice_append hfront hprg (chr ++ extra)
  rw [← List.append_assoc] at hprgSlice
  have hchrSlice := imageSlice_append hbefore hchr extra
  have h6 : imageByte (inesFront pages b6 b7 rest8 trainer ++ prg ++ chr ++ extra) 6 = b6 := rfl
  have h7 : imageByte (inesFront pages b6 b7 rest8 trainer ++ prg ++ chr ++ extra) 7 = b7 := rfl
  rw [parseInes_of_accepted (accepted_of_parts extra hpages hversion hrest htrainer hprg hchr), inesCartridge, h6, h7,
    hprgSlice, hchrSlice]

end Parts

/-- Settles O58: the image put together from its parts, the first three errors in `parseInes`'s order, and which images are
accepted. -/
theorem inesImageLoads : Obligations.InesImageLoads := by
  refine ⟨?_, fun image h => if_pos h, fun image hlength hmagic => ?_, fun image hlength hmagic hversion => ?_,
    fun image => (parseInes_ok_iff image).trans (acceptedImage_iff image)⟩
  · intro size b6 b7 rest8 trainer prg chr extra hversion hrest htrainer hprg hchr
    refine ⟨{ prg := Memory.ofBytes prg, prgSize := size, chr := Memory.ofBytes chr, mirroring := inesMirroring b6
              mapper := inesMapper b6 b7 }, ?_,
      rfl, Memory.read_ofBytes prg, Memory.read_ofBytes chr, rfl, toNat_inesMapper b6 b7⟩
    cases size with
    | k16 => exact parseInes_of_parts (pages := 1) extra rfl hversion hrest htrainer hprg hchr
    | k32 => exact parseInes_of_parts (pages := 2) extra rfl hversion hrest htrainer hprg hchr
  · rw [parseInes, if_neg (Nat.not_lt.mpr hlength)]
    exact if_pos hmagic
  · rw [parseInes, if_neg (Nat.not_lt.mpr hlength),
      if_neg (c := image.take 4 ≠ inesMagic) (Decidable.not_not.mpr hmagic)]
    exact if_pos hversion

end Sys2Proof.Machine
end
